-- ==== Sys2Proof/Word.lean ====
section
/-!
DEFINITION. The plainest types of the model: a byte, a moment of the block's running time, counters that
saturate, and the one way in which a record of a numbered table is changed.
-/

namespace Sys2Proof

/-- One byte of a frame or of a band record. -/
abbrev Byte := BitVec 8

/-- A moment, in milliseconds of the block's own time (`Station.now`; notes/assumptions/2.md). -/
abbrev Moment := Nat

/-- A counter that saturates stops at its largest value (Conventions, "Arithmetic"). -/
def satInc {w : Nat} (x : BitVec w) : BitVec w :=
  if x = BitVec.allOnes w then x else x + 1

/-- The sum of two counts, which stops at the largest value. -/
def satAdd {w : Nat} (x y : BitVec w) : BitVec w :=
  if x.toNat + y.toNat < 2 ^ w then x + y else BitVec.allOnes w

/-- Change the records of a table that `p` picks, and leave the others and the order alone. -/
def updateWhere {α : Type} (p : α → Bool) (f : α → α) (l : List α) : List α :=
  l.map fun x => if p x then f x else x

end Sys2Proof
end

