-- ==== Sys2Proof/Syntax.lean ====
section
/-!
DEFINITION. The commands of the block: one constructor of `Instr` for each row of spec/opcode_table.json,
with the operands that the row's rule gives the event. The rows have no bits, so the operands are the
things the rules name: a reader input, a band record's fields, a frame's sender and content, an ORDER
frame's parameter bytes, a locker, a cabin, a drive output, the levels of switches and straps.
-/

namespace Sys2Proof

/-- The two kinds of party (R8); on the link coded 0 FAMILY and 1 SOLO (R143). -/
inductive PartyKind where
  | family
  | solo
  deriving DecidableEq, Repr

/-- A party key: a kind and the 3-byte number it has on the link (R8, R143). -/
structure PartyKey where
  kind   : PartyKind
  number : BitVec 24
  deriving DecidableEq, Repr

/-- The size of a locker or of a tap (R9, R16). -/
inductive Size where
  | standard
  | large
  deriving DecidableEq, Repr

/-- A reader input: B, the bank reader, or Cn, the reader of cabin n from 1 to 8 (R1). -/
inductive Reader where
  | bank
  | cabin (n : Nat)
  deriving DecidableEq, Repr

/-- One tap as the dispatcher hands it to its owner (R10); the input it came from is the command's own. -/
structure Tap where
  serial : BitVec 24
  family : BitVec 16
  party  : PartyKey
  size   : Size
  /-- The sighting time of the record that opened the presentation. -/
  time   : Moment
  deriving DecidableEq, Repr

/-- The levels of the 136 sense inputs at one sample instant (Table 11). A bit is set for a switch that is
made: a made door switch reads CLOSED, a bolt switch ENGAGED, a latch switch LATCHED, a pad present.
Bit n - 1 belongs to locker n or cabin n. -/
structure Levels where
  door  : BitVec 60
  bolt  : BitVec 60
  latch : BitVec 8
  pad   : BitVec 8
  deriving DecidableEq, Repr

/-- An ORDER frame as a station receives it (R143): the sender's number, the target station and the
parameter bytes that follow the order code. Each row of the table fixes the order code. DESIGN CHOICE: a kind 6 frame
too short to hold a sub-kind, a target and an order code is no ORDER; it comes as FRAME_DISCARDED
(notes/assumptions/48.md). -/
structure OrderFrame where
  sender : BitVec 5
  target : Byte
  params : List Byte
  deriving DecidableEq, Repr

/-- The frame kinds by kind code 0 to 7 (R132); kind 6 carries ORDER and REPORT. -/
inductive Kind where
  | held
  | yield
  | free
  | claim
  | recount
  | recall
  | report
  | tally
  deriving DecidableEq, Repr

/-- Why a receiver takes a frame as broken (R130). -/
inductive BrokenFrame where
  | dominantStopBit
  | missingStartBit
  | lengthAbove12
  deriving DecidableEq, Repr

/-- The commands, one for each row of spec/opcode_table.json, in the table's order. -/
inductive Instr where
  /-- READER_BREAK (R1): a break on a reader input. -/
  | readerBreak (input : Reader)
  /-- READER_CHARACTER (R1): a character on a reader input; `stopIdle` is its stop bit at the idle level. -/
  | readerCharacter (input : Reader) (char : Byte) (stopIdle : Bool)
  /-- READER_CHARACTER_TIMEOUT (R1): more than 20 ms without the next character of an open record. -/
  | readerCharacterTimeout (input : Reader)
  /-- LOCKER_TAP (R24): the locker table takes a tap at input B. -/
  | lockerTap (tap : Tap)
  /-- CABIN_TAP (R101): the cabin unit takes a tap at reader Cn. -/
  | cabinTap (reader : Nat) (tap : Tap)
  /-- CLAIM_SEND_DEADLINE (R52): the 1 s send deadline of the party's claim expires. -/
  | claimSendDeadline (party : PartyKey)
  /-- CLAIM_WINDOW_END (R51): the 400 ms window of the party's claim ends. -/
  | claimWindowEnd (party : PartyKey)
  /-- FRAME_ATTEMPT_START (R134): the line becomes free and the first frame contends. -/
  | frameAttemptStart
  /-- ARBITRATION_LOST (R128): the attempt in progress loses the line. -/
  | arbitrationLost
  /-- BIT_ERROR (R129): the sole sender reads another level than it sends. -/
  | bitError
  /-- OWN_FRAME_DELIVERED (R131): the spoil slot of this station's attempt reads recessive. -/
  | ownFrameDelivered
  /-- ATTEMPT_SPOILED (R131): the spoil slot of this station's attempt reads dominant. -/
  | attemptSpoiled
  /-- FRAME_SPOILED (R130): a frame whose spoil slot reads dominant: the bytes received before the check,
  and the check received. -/
  | frameSpoiled (bytes : List Byte) (check : BitVec 16)
  /-- FRAME_BROKEN (R130): a received frame is broken off. -/
  | frameBroken (why : BrokenFrame)
  /-- FRAME_DISCARDED (R132): a delivered frame that goes to no block. -/
  | frameDiscarded (sender : BitVec 5) (kind : Kind) (content : List Byte)
  /-- HELD_RECEIVED (R57). -/
  | heldReceived (sender : BitVec 5) (content : List Byte)
  /-- YIELD_RECEIVED (R77). -/
  | yieldReceived (sender : BitVec 5) (content : List Byte)
  /-- FREE_RECEIVED (R77). -/
  | freeReceived (sender : BitVec 5) (content : List Byte)
  /-- CLAIM_RECEIVED (R74). -/
  | claimReceived (sender : BitVec 5) (content : List Byte)
  /-- RECOUNT_RECEIVED (R76). -/
  | recountReceived (sender : BitVec 5) (content : List Byte)
  /-- RECALL_RECEIVED (R81). -/
  | recallReceived (sender : BitVec 5) (content : List Byte)
  /-- TALLY_RECEIVED (R114). -/
  | tallyReceived (sender : BitVec 5) (content : List Byte)
  /-- ORDER_BAD_CODE (R180): an ORDER with an order code outside 1 to 13, or from a bank station. -/
  | orderBadCode (code : Byte) (order : OrderFrame)
  /-- SETUP_LOCKERS (R183), order code 1. -/
  | setupLockers (order : OrderFrame)
  /-- SETUP_CABINS (R184), order code 2. -/
  | setupCabins (order : OrderFrame)
  /-- SET_DAY (R185), order code 3. -/
  | setDay (order : OrderFrame)
  /-- OPEN_LOCKER (R43), order code 4. -/
  | openLocker (order : OrderFrame)
  /-- END_HOLDING (R44), order code 5. -/
  | endHolding (order : OrderFrame)
  /-- LOCKER_SERVICE_OFF (R44), order code 6 with the service byte 0. -/
  | lockerServiceOff (order : OrderFrame)
  /-- LOCKER_SERVICE_ON (R44), order code 6 with the service byte 1. -/
  | lockerServiceOn (order : OrderFrame)
  /-- CABIN_SERVICE_OFF (R105), order code 7 with the service byte 0. -/
  | cabinServiceOff (order : OrderFrame)
  /-- CABIN_SERVICE_ON (R105), order code 7 with the service byte 1. -/
  | cabinServiceOn (order : OrderFrame)
  /-- CLEAR_FAULT_LOCKER (R40), order code 8 with object 0. -/
  | clearFaultLocker (order : OrderFrame)
  /-- CLEAR_FAULT_CABIN (R106), order code 8 with object 1. -/
  | clearFaultCabin (order : OrderFrame)
  /-- CLEAR_FAULT_GROUP (R156), order code 8 with object 2. -/
  | clearFaultGroup (order : OrderFrame)
  /-- TAKE_COUNTERS_SNAPSHOT (R186), order code 9 with page 0. -/
  | takeCountersSnapshot (order : OrderFrame)
  /-- READ_COUNTERS (R186), order code 9 with another page. -/
  | readCounters (order : OrderFrame)
  /-- READ_LOCKER (R187), order code 10. -/
  | readLocker (order : OrderFrame)
  /-- READ_CABINS (R188), order code 11. -/
  | readCabins (order : OrderFrame)
  /-- FIND_PARTY (R189), order code 12. -/
  | findParty (order : OrderFrame)
  /-- RESTART (R190), order code 13. -/
  | restart (order : OrderFrame)
  /-- RESTART_WAIT_EXPIRY (R190): 500 ms have passed since the RESTART. -/
  | restartWaitExpiry
  /-- TALLY_TIMER (R109): the 2 s TALLY timer expires. -/
  | tallyTimer
  /-- NEIGHBOUR_STALE (R115): the age of the station's entry reaches 7 s. -/
  | neighbourStale (station : Nat)
  /-- REDIRECT_RECORD_EXPIRY (R78): 30 s have passed since the band's redirect. -/
  | redirectRecordExpiry (serial : BitVec 24)
  /-- DOMINANT_WATCH_EXPIRY (R139): the line has been dominant for 20 ms. -/
  | dominantWatchExpiry
  /-- RECESSIVE_SPAN (R141): the line has been recessive for 20 ms. -/
  | recessiveSpan
  /-- MINUTE_TICK (R22): 60 s of running time end. -/
  | minuteTick
  /-- GRANT_WAIT_EXPIRY (R34). -/
  | grantWaitExpiry (locker : Nat)
  /-- DOOR_WAIT_EXPIRY (R35). -/
  | doorWaitExpiry (locker : Nat)
  /-- BOLT_WAIT_EXPIRY (R37). -/
  | boltWaitExpiry (locker : Nat)
  /-- DOOR_OPENED (R36): a door event OPEN. -/
  | doorOpened (locker : Nat)
  /-- DOOR_CLOSED (R37): a door event CLOSED. -/
  | doorClosed (locker : Nat)
  /-- BOLT_EVENT (R38): the bolt's filtered level changes to ENGAGED or to RETRACTED. -/
  | boltEvent (locker : Nat) (engaged : Bool)
  /-- PULL_END (R149): the pull on the output has run its full time. -/
  | pullEnd (output : Nat)
  /-- JAM_REST_END (R150): the 200 ms jam rest of the output's request ends. -/
  | jamRestEnd (output : Nat)
  /-- SLOT_REST_END (R151): the 20 ms rest of the slot ends. -/
  | slotRestEnd (slot : Nat)
  /-- DRIVE_FAULT (R153): the group's drive-fault input becomes active, or inactive again. -/
  | driveFault (group : Nat) (active : Bool)
  /-- DRIVE_SUPPLY_LOW (R194): the drive supply falls below 20.0 V. -/
  | driveSupplyLow
  /-- DRIVE_SUPPLY_RISE (R194): the drive supply rises above 21.5 V. -/
  | driveSupplyRise
  /-- DRIVE_SUPPLY_SAG (R194): the drive supply falls to 21.5 V or below. -/
  | driveSupplySag
  /-- HOLD_DOWN_RELEASE (R155): the 100 ms release timer expires. -/
  | holdDownRelease
  /-- CABIN_CLOCK_TICK (R86): one second of running time ends. -/
  | cabinClockTick
  /-- GRACE_EXPIRY (R99). -/
  | graceExpiry (cabin : Nat)
  /-- ADMIT_TIMER_EXPIRY (R100). -/
  | admitTimerExpiry (cabin : Nat)
  /-- VACATE_TIMER_EXPIRY (R95). -/
  | vacateTimerExpiry (cabin : Nat)
  /-- PRESENCE_SEEN (R94): the pad's filtered level becomes present. -/
  | presenceSeen (cabin : Nat)
  /-- PRESENCE_CONFIRMED (R164): the pad's 1 s confirmation timer expires. -/
  | presenceConfirmed (cabin : Nat)
  /-- PRESENCE_CLEAR (R94): the pad's filtered level becomes absent. -/
  | presenceClear (cabin : Nat)
  /-- LATCH_EVENT (R89): the latch's filtered level changes to LATCHED or to UNLATCHED. -/
  | latchEvent (cabin : Nat) (latched : Bool)
  /-- CURSOR_TIMER_EXPIRY (R172). -/
  | cursorTimerExpiry
  /-- MESSAGE_HOLD_EXPIRY (R173). -/
  | messageHoldExpiry
  /-- PAIR_TURN (R174). -/
  | pairTurn
  /-- SCROLL_STEP (R175). -/
  | scrollStep
  /-- RECOVERY_WINDOW_EXPIRY (R197). -/
  | recoveryWindowExpiry
  /-- LOGIC_SUPPLY_LOW (R195): the logic supply falls below 2.9 V. -/
  | logicSupplyLow
  /-- LOGIC_SUPPLY_LOST (R195): the logic supply falls below 1.8 V. -/
  | logicSupplyLost
  /-- LOGIC_SUPPLY_RESTORED (R195): the logic supply rises above 3.0 V, with the levels of the straps. -/
  | logicSupplyRestored (strap : BitVec 5) (zone : BitVec 3)
  /-- RESET_LINE_LOW (R195). -/
  | resetLineLow
  /-- RESET_LINE_HIGH (R195). -/
  | resetLineHigh
  /-- WARM_START_END (R196): the straps as read, and the bits by which what happened to the retained state
  during the start changes the retention check computed afresh (0 where the state is as the start left it). -/
  | warmStartEnd (strap : BitVec 5) (zone : BitVec 3) (damage : BitVec 16)
  /-- FILTER_LOAD_END (R165): the four-sample filter load completes. -/
  | filterLoadEnd
  /-- PANEL_FRAME (R168): a panel frame starts. -/
  | panelFrame
  /-- SENSE_SAMPLE (R160): a sample instant, with the levels of all sense inputs. -/
  | senseSample (levels : Levels)
  deriving DecidableEq, Repr

end Sys2Proof
end

