-- ==== Sys2Proof/Decode.lean ====
section
/-!
DEFINITION. The decoder the host asks about. No row of spec/opcode_table.json gives bits (its "fields" are
empty and it has no "fixed"): a command is an event at the block, not a word, so no word spells one.
-/

namespace Sys2Proof

/-- The command that a word of `nbits` bits spells by the table's bits: none, for every word. -/
def decodeTableWord (nbits w : Nat) : Option Instr :=
  match nbits, w with
  | _, _ => none

end Sys2Proof
end

