-- ==== Sys2Proof/Machine/State.lean ====
section
/-!
DEFINITION. The state of one TB60: a structure for each block of Table 1, with the fields that block's rules
name, and the queue of the commands that wait. All of it is plain data. A timer is held as the moment at
which it expires, absent while it does not run (notes/assumptions/2.md).
-/

namespace Sys2Proof.Machine

open Sys2Proof

/-! ### Tap dispatcher (chapter 1) -/

/-- What a tap guard entry holds: a band serial and the sighting time of its latest record (R4). -/
structure Sighting where
  serial : BitVec 24
  time   : Moment
  deriving DecidableEq, Repr

/-- One reader input: its receiver and its tap guard entry (R1, R4). -/
structure ReaderInput where
  reader : Reader
  /-- The bytes of the open record so far, in order; absent while the receiver waits for a break. -/
  record : Option (List Byte)
  /-- The moment 20 ms after the last character of the open record. -/
  gapEnd : Option Moment
  /-- The tap guard entry; absent when it is empty. -/
  guard  : Option Sighting
  deriving DecidableEq, Repr

structure Dispatcher where
  inputs    : List ReaderInput
  /-- Taps accepted, 32 bits, wraps (R14). -/
  accepted  : BitVec 32
  /-- Taps since read, saturates (R14). -/
  sinceRead : BitVec 16
  /-- Taps refused, saturates (R14). -/
  refused   : BitVec 16
  /-- The partial records discarded in STRAP_FAULT, which the counter takes when the station leaves that mode: till
  then the retained state is left untouched (R1, R192; notes/assumptions/15.md). -/
  heldRefused : BitVec 16
  deriving DecidableEq, Repr

/-! ### Locker table (chapter 2) -/

/-- The ten locker states, in the order of the table of 2.4. -/
inductive LockerState where
  | free
  | claiming
  | unbolting
  | unbolted
  | opened
  | locked
  | unsecured
  | jammed
  | orphan
  | outOfService
  deriving DecidableEq, Repr

/-- The drive purpose of a locker (R18). -/
inductive Purpose where
  | first
  | retrieve
  | attendant
  deriving DecidableEq, Repr

/-- A locker record (R16) with the three timers that the locker table runs for it (R34, R35, R37). -/
structure Locker where
  number      : Nat
  size        : Size
  state       : LockerState
  wear        : BitVec 16
  purpose     : Option Purpose
  returnState : Option LockerState
  forced      : Bool
  grantWait   : Option Moment
  doorWait    : Option Moment
  boltWait    : Option Moment
  deriving DecidableEq, Repr

/-- A holding (R19). -/
structure Holding where
  locker      : Nat
  party       : PartyKey
  serial      : BitVec 24
  start       : BitVec 16
  openings    : BitVec 8
  overstay    : Bool
  double      : Bool
  unannounced : Bool
  recovered   : Bool
  forced      : Bool
  deriving DecidableEq, Repr

structure LockerTable where
  lockers     : List Locker
  holdings    : List Holding
  /-- The minute counter (R22). -/
  minute      : BitVec 16
  /-- The moment at which the running minute ends. -/
  minuteDue   : Moment
  /-- The forced doors counter (R41). -/
  forcedDoors : BitVec 16
  /-- The doubles counter (R68). -/
  doubles     : BitVec 16
  deriving DecidableEq, Repr

/-! ### Claim unit (chapter 3) -/

/-- The state of a claim; a SENT claim has its window end (R47). -/
inductive ClaimState where
  | queued
  | sent (windowEnd : Moment)
  deriving DecidableEq, Repr

/-- A claim (R47). -/
structure Claim where
  party     : PartyKey
  serial    : BitVec 24
  locker    : Nat
  state     : ClaimState
  queueTime : Moment
  insist    : Bool
  joined    : BitVec 8
  /-- The transmit queue's number for the claim's own CLAIM frame; absent where none was queued. -/
  frame     : Option Nat
  deriving DecidableEq, Repr

/-- An entry of the announcement list (R64): a locker, and the number of its announcing CLAIM frame. -/
structure Announcement where
  locker : Nat
  frame  : Nat
  deriving DecidableEq, Repr

structure ClaimUnit where
  claims        : List Claim
  announcements : List Announcement
  /-- The walk position; absent when no walk is running (R64). -/
  walk          : Option Nat
  confirmed     : BitVec 16
  yielded       : BitVec 16
  failed        : BitVec 16
  deriving DecidableEq, Repr

/-! ### Party directory (chapter 4) -/

/-- An entry of the directory cache (R71). -/
structure DirectoryEntry where
  party      : PartyKey
  holder     : Nat
  locker     : Nat
  serial     : BitVec 24
  doubtful   : Bool
  recountDue : Bool
  deriving DecidableEq, Repr

/-- A record of the redirect list (R78). -/
structure Redirect where
  serial : BitVec 24
  moment : Moment
  deriving DecidableEq, Repr

structure Directory where
  /-- The cache, from the oldest end to the newest end (R71). -/
  cache     : List DirectoryEntry
  redirects : List Redirect
  /-- The count of the directory's RECOUNT frames in the transmit queue (R82). -/
  recounts  : Nat
  deriving DecidableEq, Repr

/-! ### Restart control (chapter 12) -/

/-- The station mode (R193). -/
inductive Mode where
  | strapFault
  | unset
  | recovering
  | run
  deriving DecidableEq, Repr

/-- The start causes, in the order of their codes 0 to 4 (R186). -/
inductive StartCause where
  | powerOn
  | supplyLow
  | resetLine
  | ordered
  | retentionBad
  deriving DecidableEq, Repr

/-- Whether the part runs, is in a warm start with a cause (R195), or waits without retention for the
supply that begins a cold start. -/
inductive Phase where
  | running
  | warm (cause : StartCause)
  | off
  deriving DecidableEq, Repr

/-- The logic supply against the levels of R195: above the reset threshold, below it, below 1.8 V. -/
inductive LogicSupply where
  | normal
  | low
  | lost
  deriving DecidableEq, Repr

/-- The drive supply against the levels of R194: below 20.0 V, up to 21.5 V, above 21.5 V. -/
inductive DriveSupply where
  | low
  | middle
  | high
  deriving DecidableEq, Repr

structure RestartControl where
  mode            : Mode
  /-- The station number as read at the last start (R192). -/
  station         : Nat
  /-- The zone as read at the last start (R192). -/
  zone            : BitVec 3
  /-- The station strap and zone strap pins, as last given. -/
  strapPins       : BitVec 5
  zonePins        : BitVec 3
  phase           : Phase
  /-- Drive hold-down IN FORCE (R194). -/
  holdDown        : Bool
  /-- The 100 ms release timer of hold-down (R194). -/
  releaseAt       : Option Moment
  driveSupply     : DriveSupply
  logicSupply     : LogicSupply
  resetLineLow    : Bool
  /-- The reset-cause record: the last start cause, and the warm starts since the last cold start (R196). -/
  cause           : StartCause
  warmStarts      : BitVec 8
  /-- The recovery window timer (R197). -/
  windowEnd       : Option Moment
  recallDelivered : Bool
  /-- The moment at which the minute counter and the cabin clock were paused (R22, R86, R192). -/
  pausedAt        : Option Moment
  /-- A warm start has ended and its settlements wait for the filter load (R165). -/
  settleDue       : Bool
  /-- The retention check kept through a start (R196), as the latest start found it. While the blocks run, the
  check kept is that of the state there, Station.keptCheck. -/
  check           : BitVec 16
  deriving DecidableEq, Repr

/-! ### Tally unit (chapter 6) -/

/-- An entry of the neighbour table (R113). Its age is the time since `heardAt`; `aged` once that has
reached 7 s (R115). -/
structure Neighbour where
  station      : Nat
  zone         : Nat
  freeStandard : Nat
  freeLarge    : Nat
  queue        : Nat
  wait         : Nat
  mode         : Mode
  driveHold    : Bool
  heardAt      : Moment
  aged         : Bool
  heard        : Bool
  deriving DecidableEq, Repr

structure TallyUnit where
  neighbours : List Neighbour
  /-- The 2 s TALLY timer (R109). -/
  timer      : Option Moment
  deriving DecidableEq, Repr

/-! ### Cabin unit (chapter 5) -/

/-- The cabin states, in the order of the table of 5.2. -/
inductive CabinState where
  | free
  | reserved
  | admitting
  | occupied
  | outOfService
  | fault
  deriving DecidableEq, Repr

/-- The position of a latch, and the target of a latch request (R85, R145). -/
inductive Latch where
  | latched
  | unlatched
  deriving DecidableEq, Repr

/-- The presence state of a pad (R91, R164). -/
inductive Presence where
  | clear
  | seen
  | confirmed
  deriving DecidableEq, Repr

/-- A cabin record (R85) with the three timers that the cabin unit runs for it. -/
structure Cabin where
  number        : Nat
  state         : CabinState
  latchPosition : Latch
  /-- The latch target; absent for "none". -/
  latchTarget   : Option Latch
  presence      : Presence
  occupant      : Option (BitVec 24)
  occupancy     : BitVec 16
  clearMoment   : Option (BitVec 16)
  /-- The reserved-for entry, named by its band serial: no band stands in the queue twice (R97). -/
  reservedFor   : Option (BitVec 24)
  overstay      : Bool
  latchMoving   : Bool
  graceAt       : Option Moment
  admitAt       : Option Moment
  vacateAt      : Option Moment
  /-- The seconds of the occupancy, which stop at 65 535: what READ CABINS reports (R188). -/
  seconds       : BitVec 16
  /-- The state is the one before the latest warm start, which R108 has still to settle
  (notes/assumptions/12.md). -/
  unsettled     : Bool
  deriving DecidableEq, Repr

/-- The state of a queue entry; RESERVED carries a cabin number (R97). -/
inductive EntryState where
  | waiting
  | reserved (cabin : Nat)
  deriving DecidableEq, Repr

/-- An entry of the cabin queue (R97). -/
structure QueueEntry where
  serial   : BitVec 24
  party    : PartyKey
  joined   : BitVec 16
  state    : EntryState
  graceEnd : Option (BitVec 16)
  /-- The seconds since joining, which stop at 65 535: what READ CABINS reports (R188). -/
  seconds  : BitVec 16
  deriving DecidableEq, Repr

structure CabinUnit where
  cabins   : List Cabin
  /-- The cabin queue, oldest first. -/
  queue    : List QueueEntry
  /-- The dwell average D, in seconds (R116). -/
  dwell    : Nat
  /-- The cabin clock (R86). -/
  clock    : BitVec 16
  /-- The moment at which the running second ends. -/
  clockDue : Moment
  /-- Cabin reservations missed (R99). -/
  missed   : BitVec 16
  deriving DecidableEq, Repr

/-! ### Drive arbiter (chapter 8) -/

/-- The purpose of a drive request: a bolt's, or the target of a latch's (R145). -/
inductive DrivePurpose where
  | bolt (purpose : Purpose)
  | latch (target : Latch)
  deriving DecidableEq, Repr

/-- The phase of a drive request (Table 10): a pull has its slot and its end, a jam rest its end. -/
inductive DrivePhase where
  | waiting
  | pull (slot : Nat) (ends : Moment)
  | rest (ends : Moment)
  | hold
  deriving DecidableEq, Repr

/-- A drive request (R145). Its owner is set by its output. -/
structure DriveRequest where
  output  : Nat
  purpose : DrivePurpose
  attempt : Nat
  phase   : DrivePhase
  deriving DecidableEq, Repr

/-- A pull slot with its 20 ms rest (R151). The request in PULL names the slot it occupies. -/
structure Slot where
  number    : Nat
  restUntil : Option Moment
  deriving DecidableEq, Repr

structure DriveArbiter where
  /-- The drive request queue, in request order. -/
  queue   : List DriveRequest
  slots   : List Slot
  /-- The group fault latches; a bit is set for FAULTED (R153). -/
  latches : BitVec 4
  /-- The drive-fault inputs; a bit is set for active. -/
  inputs  : BitVec 4
  /-- The jams counter (R150). -/
  jams    : BitVec 16
  /-- The outputs whose pull ended before the moment of the grant wait that withdrew their request, and whose
  PULLED report the locker table has still to take (R34, R152; notes/assumptions/31.md). -/
  late    : List Nat
  deriving DecidableEq, Repr

/-! ### Sense scanner (chapter 9) -/

/-- A presence pad as the scanner keeps it (R164). -/
structure Pad where
  number    : Nat
  presence  : Presence
  confirmAt : Option Moment
  deriving DecidableEq, Repr

structure Scanner where
  /-- The levels of the inputs at the latest sample instant. -/
  switches  : Levels
  /-- The latest samples, at most four, the newest first (R160). -/
  history   : List Levels
  /-- The filtered levels (R160). -/
  level     : Levels
  /-- The filters have been loaded since the last start (R165). -/
  loaded    : Bool
  pads      : List Pad
  /-- The next sample instant. -/
  sampleDue : Moment
  deriving DecidableEq, Repr

/-! ### Station link controller (chapter 7) -/

/-- The block that queued a frame (R134). -/
inductive Owner where
  | claimUnit
  | lockerTable
  | directory
  | restartControl
  | tallyUnit
  | orderUnit
  deriving DecidableEq, Repr

/-- What a CLAIM frame stands for: a claim of the claims table, or the announcement of a locker's holding
(R64). Every other frame is plain. -/
inductive Role where
  | plain
  | claim
  | announcement (locker : Nat)
  deriving DecidableEq, Repr

/-- An entry of the transmit queue (R134). -/
structure TxFrame where
  /-- The number the model gives the frame, rising in the order in which frames are offered. -/
  id        : Nat
  kind      : Kind
  content   : List Byte
  owner     : Owner
  role      : Role
  queueTime : Moment
  /-- The attempt count: spoiled attempts so far. -/
  attempts  : Nat
  /-- The frame is the frame on the line. -/
  onLine    : Bool
  /-- The frame on the line has been withdrawn by its owner (R137). -/
  withdrawn : Bool
  deriving DecidableEq, Repr

/-- What the owner of a frame is told (R138); `refusedDown` is "not sent" at once for a frame offered while
the link is DOWN (R140). -/
inductive Fate where
  | delivered
  | notSent
  | refusedDown
  | emptied
  deriving DecidableEq, Repr

/-- A report on its way to a frame's owner. -/
structure FrameReport where
  frame : TxFrame
  fate  : Fate
  deriving DecidableEq, Repr

/-- The two levels of the line (R126). -/
inductive LineLevel where
  | dominant
  | recessive
  deriving DecidableEq, Repr

structure Link where
  /-- The transmit queue, in its order (R134). -/
  queue         : List TxFrame
  /-- The link state is UP (R139). -/
  up            : Bool
  /-- The successive-loss count (R131). -/
  losses        : Nat
  /-- The dominant watch, in ms, as the latest event of the line left it (R139). -/
  dominantWatch : Nat
  /-- The recessive span has been seen while DOWN (R141). -/
  recessiveSeen : Bool
  /-- What this station drives in the spoil slot of a frame it receives, as the latest event of the line left it
  (R127, R130; notes/assumptions/27.md). -/
  spoilSlot     : LineLevel
  framesLost    : BitVec 16
  spoilsDriven  : BitVec 16
  /-- The number of the next frame offered. -/
  nextFrame     : Nat
  /-- Reports that have not yet reached their owners, in the order of their causes (R138). -/
  reports       : List FrameReport
  deriving DecidableEq, Repr

/-! ### Order unit (chapter 11) -/

/-- The setup record (R183, R184), in the units of the setup orders' layouts (R143). -/
structure Setup where
  lockerCount    : Nat
  largeCount     : Nat
  dayCode        : Byte
  sessionLimit   : Nat
  doorWait       : Nat
  pullTime       : Nat
  holdDuty       : Nat
  filterInterval : Nat
  cabinCount     : Nat
  cabinLimit     : Nat
  grace          : Nat
  vacateTime     : Nat
  walkPenalty    : Nat
  margin         : Nat
  initialDwell   : Nat
  deriving DecidableEq, Repr

/-- A copy of every counter of R186's table. -/
structure Counters where
  accepted     : BitVec 32
  refused      : BitVec 16
  sinceRead    : BitVec 16
  confirmed    : BitVec 16
  yielded      : BitVec 16
  failed       : BitVec 16
  doubles      : BitVec 16
  jams         : BitVec 16
  forcedDoors  : BitVec 16
  framesLost   : BitVec 16
  spoilsDriven : BitVec 16
  missed       : BitVec 16
  deriving DecidableEq, Repr

/-- A RESTART that waits to begin (R190): the number of its REPORT frame, and the 500 ms bound. -/
structure RestartWait where
  frame    : Nat
  deadline : Moment
  deriving DecidableEq, Repr

structure OrderUnit where
  setup             : Setup
  /-- The SETUP LOCKERS lock and the SETUP CABINS lock, closed (R183, R184). -/
  lockersLockClosed : Bool
  cabinsLockClosed  : Bool
  snapshot          : Counters
  restartWait       : Option RestartWait
  deriving DecidableEq, Repr

/-! ### Panel controller (chapter 10) -/

/-- The texts of the message catalogue (Table 13), with the numbers that fill their placeholders. -/
inductive Text where
  | notReady
  | bandNotValid
  | locker (n : Nat)
  | lockerOpening (n : Nat)
  | lockerOpenDoor (n : Nat)
  | lockerReleased (n : Nat)
  | seeAttendant
  | pleaseWait
  | goToBank (bank locker : Nat)
  | linkBusy
  | tryAgain
  | noLockerHere (bank : Nat)
  | allLockersFull
  | cabinReady (c : Nat)
  | cabinEnter (c : Nat)
  | goToCabin (c : Nat)
  | queueAbout (place minutes : Nat)
  | queueClosed (place : Nat)
  | cabin (c : Nat)
  | cabinsClosed
  | cabinQueueFull
  | cabinsFaster (bank : Nat)
  | idleCounts (standard large cabins : Nat)
  | strapFault
  deriving DecidableEq, Repr

/-- A message as it was posted: one text, or two texts paired (R173). -/
structure Message where
  first  : Text
  second : Option Text
  deriving DecidableEq, Repr

/-- The colour a cell shows in a frame (R167). -/
inductive Colour where
  | dark
  | green
  | red
  | amber
  deriving DecidableEq, Repr

structure Panel where
  /-- The locker whose cell the cursor marks (R171). -/
  cursor      : Option Nat
  cursorTimer : Option Moment
  /-- What the message buffer holds; absent when it is empty (R173). -/
  message     : Option Message
  holdEnd     : Option Moment
  /-- The pair phase: the second text has its turn (R174). -/
  secondTurn  : Bool
  turnEnd     : Option Moment
  scroll      : Nat
  /-- The scroll step count, 0 to 11 (R175). -/
  stepCount   : Nat
  /-- The frame counter (R168). -/
  frame       : BitVec 6
  /-- The start of the next frame, in eighths of a millisecond: a frame lasts 125 of them. -/
  frameDue    : Nat
  /-- The colours of cells 1 to 72 in the running frame (R167). -/
  cells       : List Colour
  /-- The 24 characters of the message line in the running frame. -/
  line        : List Char
  deriving DecidableEq, Repr

/-! ### The station and the state -/

/-- One TB60. -/
structure Station where
  /-- The block's own time. -/
  now        : Moment
  /-- Events that one block has handed to another and that it has not yet taken, the earliest first
  (notes/assumptions/3.md). -/
  deliveries : List Instr
  taps       : Dispatcher
  lockers    : LockerTable
  claims     : ClaimUnit
  directory  : Directory
  tally      : TallyUnit
  cabins     : CabinUnit
  drive      : DriveArbiter
  scan       : Scanner
  link       : Link
  orders     : OrderUnit
  panel      : Panel
  restart    : RestartControl
  deriving DecidableEq, Repr

/-- The whole state: the commands that wait, first in first out, and the station. -/
structure State where
  pending : List Instr
  station : Station
  deriving DecidableEq, Repr

/-- The machine stops with no fault: whatever the spec calls a fault (a drive fault, a jam, STRAP_FAULT) is
an effect on the state. This type has no value, so no step ends in one. -/
inductive Fault where
  deriving DecidableEq, Repr

/-- The reasons for which a command has no meaning. -/
inductive Refusal where
  /-- Raised by exec's arm of a row that has no meaning yet, and by nothing else. Safe: the machine stops. No
  arm of this model raises it. -/
  | notModelled (mnemonic : String)
  deriving DecidableEq, Repr

/-! ### Reset -/

/-- The reader inputs after a start: every receiver waits for a break and every guard entry is empty
(R2, R5). -/
def Dispatcher.resetInputs : List ReaderInput :=
  [.bank, .cabin 1, .cabin 2, .cabin 3, .cabin 4, .cabin 5, .cabin 6, .cabin 7, .cabin 8].map
    fun r => { reader := r, record := none, gapEnd := none, guard := none }

/-- No switch made. -/
def Levels.none : Levels := { door := 0, bolt := 0, latch := 0, pad := 0 }

/-- The pads after a start, before the filters are loaded. -/
def Scanner.resetPads : List Pad :=
  [1, 2, 3, 4, 5, 6, 7, 8].map fun c => { number := c, presence := .clear, confirmAt := Option.none }

/-- Four free slots with no rest running (R151, R157). -/
def DriveArbiter.resetSlots : List Slot :=
  [1, 2, 3, 4].map fun k => { number := k, restUntil := none }

/-- The entry of a neighbour that has not been heard (R113). -/
def Neighbour.unheard (station : Nat) : Neighbour :=
  { station, zone := 0, freeStandard := 0, freeLarge := 0, queue := 0, wait := 0, mode := .unset,
    driveHold := false, heardAt := 0, aged := false, heard := false }

/-- The empty setup record: its counts are 0 and the filter interval is 8 ms (11.3, R159). -/
def Setup.empty : Setup :=
  { lockerCount := 0, largeCount := 0, dayCode := 0, sessionLimit := 0, doorWait := 0, pullTime := 0,
    holdDuty := 0, filterInterval := 8, cabinCount := 0, cabinLimit := 0, grace := 0, vacateTime := 0,
    walkPenalty := 0, margin := 0, initialDwell := 0 }

/-- The counters snapshot after a cold start (R191). -/
def Counters.zero : Counters :=
  { accepted := 0, refused := 0, sinceRead := 0, confirmed := 0, yielded := 0, failed := 0, doubles := 0,
    jams := 0, forcedDoors := 0, framesLost := 0, spoilsDriven := 0, missed := 0 }

/-- The TALLY queued as a station with zone strap 0 enters UNSET (R109): no locker and no cabin record, so
free counts 0, Q 0, W 65 535 (R110), mode UNSET and the flag DRIVE_HOLD (R111, R194). -/
def Link.resetTally : TxFrame :=
  { id := 0, kind := .tally, content := [0, 0, 0, 0, 255, 255, 0, 1], owner := .tallyUnit, role := .plain,
    queueTime := 0, attempts := 0, onLine := false, withdrawn := false }

/-- The message line of the idle "NOT READY" (R176, R178). -/
def Panel.resetLine : List Char :=
  ['N', 'O', 'T', ' ', 'R', 'E', 'A', 'D', 'Y'] ++ List.replicate 15 ' '

/-- The station right after the cold start of a power-on, as it enters UNSET (R193), with every switch open,
station strap 1, zone strap 0, and a drive supply that has not yet risen (notes/assumptions/1.md). -/
def Station.reset : Station :=
  { now := 0
    deliveries := []
    taps := { inputs := Dispatcher.resetInputs, accepted := 0, sinceRead := 0, refused := 0, heldRefused := 0 }
    lockers :=
      { lockers := [], holdings := [], minute := 0, minuteDue := 60000, forcedDoors := 0, doubles := 0 }
    claims := { claims := [], announcements := [], walk := none, confirmed := 0, yielded := 0, failed := 0 }
    directory := { cache := [], redirects := [], recounts := 0 }
    tally := { neighbours := ((List.range 28).filter (2 ≤ ·)).map Neighbour.unheard, timer := some 2000 }
    cabins := { cabins := [], queue := [], dwell := 0, clock := 0, clockDue := 1000, missed := 0 }
    drive := { queue := [], slots := DriveArbiter.resetSlots, latches := 0, inputs := 0, jams := 0, late := [] }
    scan :=
      { switches := Levels.none, history := [], level := Levels.none, loaded := false,
        pads := Scanner.resetPads, sampleDue := 8 }
    link :=
      { queue := [Link.resetTally], up := true, losses := 0, dominantWatch := 0, recessiveSeen := false,
        spoilSlot := .recessive, framesLost := 0, spoilsDriven := 0, nextFrame := 1, reports := [] }
    orders :=
      { setup := Setup.empty, lockersLockClosed := false, cabinsLockClosed := false,
        snapshot := Counters.zero, restartWait := none }
    panel :=
      { cursor := none, cursorTimer := none, message := none, holdEnd := none, secondTurn := false,
        turnEnd := none, scroll := 0, stepCount := 0, frame := 0, frameDue := 125,
        cells := List.replicate 72 .dark, line := Panel.resetLine }
    restart :=
      { mode := .unset, station := 1, zone := 0, strapPins := 1, zonePins := 0, phase := .running,
        holdDown := true, releaseAt := none, driveSupply := .low, logicSupply := .normal,
        resetLineLow := false, cause := .powerOn, warmStarts := 0, windowEnd := none,
        recallDelivered := false, pausedAt := none, settleDue := false, check := 0 } }

/-- The machine right after reset: no command waits. -/
def State.reset : State := { pending := [], station := Station.reset }

end Sys2Proof.Machine
end

