-- ==== Sys2Proof/Config.lean ====
section
/-!
DEFINITION. The free values: what the spec leaves without a value. Each is an opaque constant, so that no
proof can see what it is and a claim is true whatever it is. Each has a row in notes/assumptions.
-/

namespace Sys2Proof

open Sys2Proof.Machine

/-- DESIGN CHOICE (notes/assumptions/5.md): the level read from a sense input, at a moment at which the filters
of a start have not been loaded. R165 says that the filtered levels are lost and built again, and gives no level
in between. The inputs are numbered door n at n - 1, bolt n at 59 + n, latch c at 119 + c, pad c at 127 + c. -/
opaque Config.unloadedLevel : Moment → Nat → Bool

/-- DESIGN CHOICE (notes/assumptions/6.md): the byte read at a place that a received frame's content does not
reach. R143 gives each kind a length, and only the tally unit tests it (R114). -/
opaque Config.missingByte : Moment → BitVec 5 → List Byte → Nat → Byte

/-- DESIGN CHOICE (notes/assumptions/7.md): the two characters shown for a number above 99, which a placeholder
of two digits cannot show (R177). A received frame can carry such a locker number to a redirect (R57). -/
opaque Config.wideNumber : Nat → Char × Char

/-- DESIGN CHOICE (notes/assumptions/10.md): the page byte of a REPORT that refuses a READ COUNTERS or a READ
CABINS with no page parameter, or with one so large that 4 × page + part does not fit a byte (R182). -/
opaque Config.pageByte : Option Nat → Byte

/-- DESIGN CHOICE (notes/assumptions/44.md): the seconds to grace end that READ CABINS reports, of a grace end and
a cabin clock that has passed it, the grace expiry of that moment still to be taken. R188 gives no value below 0. -/
opaque Config.pastGrace : BitVec 16 → BitVec 16 → BitVec 16

/-- The state that a warm start keeps and the retention check guards, in the order of 12.3: the locker and the
cabin records without the timers that a warm start loses. -/
structure Retained where
  lockers           : List Locker
  holdings          : List Holding
  minute            : BitVec 16
  clock             : BitVec 16
  cabins            : List Cabin
  dwell             : Nat
  claims            : List Claim
  latches           : BitVec 4
  setup             : Setup
  lockersLockClosed : Bool
  cabinsLockClosed  : Bool
  snapshot          : Counters
  counters          : Counters
  recallDelivered   : Bool
  cause             : StartCause
  warmStarts        : BitVec 8
  deriving DecidableEq, Repr

/-- DESIGN CHOICE (notes/assumptions/8.md): the 16-bit retention check of the retained state. R196 gives its
width and not how it is computed. -/
opaque Config.retentionCheck : Retained → BitVec 16

end Sys2Proof
end

