-- ==== Sys2Proof/Machine/Operands.lean ====
section
/-!
DEFINITION. The layouts of R143: numbers as bytes, most significant first, party keys, band records, the
contents of the frames this station receives and sends, and the check of R127.
-/

namespace Sys2Proof.Machine

open Sys2Proof

/-! ### Numbers and bytes (R143) -/

/-- The byte of `x` that has `k` bytes below it. -/
def byteOf {w : Nat} (k : Nat) (x : BitVec w) : Byte := (x >>> (8 * k)).setWidth 8

/-- A number of two bytes, most significant first. -/
def twoBytes (x : BitVec 16) : List Byte := [byteOf 1 x, byteOf 0 x]

/-- A number of three bytes. -/
def threeBytes (x : BitVec 24) : List Byte := [byteOf 2 x, byteOf 1 x, byteOf 0 x]

/-- A number of four bytes. -/
def fourBytes (x : BitVec 32) : List Byte := [byteOf 3 x, byteOf 2 x, byteOf 1 x, byteOf 0 x]

/-- A number of one byte. -/
def oneByte (n : Nat) : Byte := BitVec.ofNat 8 n

/-- The number of two bytes, most significant first. -/
def fromTwo (a b : Byte) : BitVec 16 := a ++ b

/-- The number of three bytes. -/
def fromThree (a b c : Byte) : BitVec 24 := a ++ b ++ c

/-! ### Party keys (R8, R143) -/

/-- The party kind byte: 0 FAMILY, 1 SOLO. -/
def PartyKind.code : PartyKind → Byte
  | .family => 0
  | .solo => 1

/-- The kind that a party kind byte names; none for a byte that is neither 0 nor 1. -/
def partyKindOf (b : Byte) : Option PartyKind :=
  if b = 0 then some .family else if b = 1 then some .solo else none

/-- The four bytes of a party key. -/
def partyBytes (p : PartyKey) : List Byte := PartyKind.code p.kind :: threeBytes p.number

/-- R8: FAMILY f for a family number other than 0, and SOLO with the band's serial for 0. -/
def partyOf (serial : BitVec 24) (family : BitVec 16) : PartyKey :=
  if family = 0 then ⟨.solo, serial⟩ else ⟨.family, family.setWidth 24⟩

/-! ### Band records (R3, R7 to R9, Table 6) -/

/-- The check a record of these bytes must carry: 255 minus the sum of the first seven, modulo 256 (R3). -/
def recordCheck (bytes : List Byte) : Byte := 255 - (bytes.take 7).foldl (· + ·) 0

/-- The byte of a complete record. -/
def recordByte (bytes : List Byte) (i : Nat) : Byte := bytes[i]?.getD 0

def recordSerial (bytes : List Byte) : BitVec 24 :=
  fromThree (recordByte bytes 0) (recordByte bytes 1) (recordByte bytes 2)

def recordFamily (bytes : List Byte) : BitVec 16 := fromTwo (recordByte bytes 3) (recordByte bytes 4)

/-- R9: bit 0 of the attribute byte. -/
def recordSize (bytes : List Byte) : Size :=
  if (recordByte bytes 5).getLsbD 0 then .large else .standard

def recordDay (bytes : List Byte) : Byte := recordByte bytes 6

/-- The tap of a record whose presentation is admitted (R8 to R10). -/
def recordTap (bytes : List Byte) (time : Moment) : Tap :=
  { serial := recordSerial bytes
    family := recordFamily bytes
    party := partyOf (recordSerial bytes) (recordFamily bytes)
    size := recordSize bytes
    time }

/-! ### Received frames -/

/-- A frame as it is handed to the blocks (R132): the moment, the sender's number and the content. -/
structure Received where
  moment  : Moment
  sender  : BitVec 5
  content : List Byte
  deriving DecidableEq, Repr

/-- The content byte at a place; free where the content does not reach it. -/
def Received.byte (f : Received) (i : Nat) : Byte :=
  f.content[i]?.getD (Config.missingByte f.moment f.sender f.content i)

/-- The sender's number. -/
def Received.station (f : Received) : Nat := f.sender.toNat

/-- The party key whose kind byte stands at a place; none for a kind byte that is neither 0 nor 1. -/
def Received.party (f : Received) (i : Nat) : Option PartyKey :=
  (partyKindOf (f.byte i)).map fun k => ⟨k, fromThree (f.byte (i + 1)) (f.byte (i + 2)) (f.byte (i + 3))⟩

/-- The band serial at a place. -/
def Received.serial (f : Received) (i : Nat) : BitVec 24 :=
  fromThree (f.byte i) (f.byte (i + 1)) (f.byte (i + 2))

/-! ### Contents of the frames this station sends -/

/-- The size as coded in a CLAIM (R143). -/
def Size.code : Size → Byte
  | .standard => 0
  | .large => 1

def heldContent (p : PartyKey) (locker claimer : Nat) : List Byte :=
  partyBytes p ++ [oneByte locker, oneByte claimer]

/-- The content of a YIELD and of a FREE. -/
def partyLockerContent (p : PartyKey) (locker : Nat) : List Byte := partyBytes p ++ [oneByte locker]

def claimContent (p : PartyKey) (locker : Nat) (serial : BitVec 24) (size : Size) : List Byte :=
  partyBytes p ++ [oneByte locker] ++ threeBytes serial ++ [Size.code size]

def recountContent (recaller : Nat) (p : PartyKey) (locker : Nat) (serial : BitVec 24) : List Byte :=
  [oneByte recaller] ++ partyBytes p ++ [oneByte locker] ++ threeBytes serial

/-- A REPORT: sub-kind 1, console, order code, result, page byte, data. -/
def reportContent (console : Nat) (code result page : Byte) (data : List Byte) : List Byte :=
  [1, oneByte console, code, result, page] ++ data

/-- The party key and the locker that a queued CLAIM, YIELD or FREE carries, read back from its content. -/
def sentParty (content : List Byte) : Option PartyKey :=
  (partyKindOf (content[0]?.getD 0)).map fun k =>
    ⟨k, fromThree (content[1]?.getD 0) (content[2]?.getD 0) (content[3]?.getD 0)⟩

def sentLocker (content : List Byte) : Nat := (content[4]?.getD 0).toNat

/-! ### The check of R127 -/

/-- One data bit enters the check register: generator x^16 + x^12 + x^5 + 1, most significant bit first. -/
def checkBit (register : BitVec 16) (bit : Bool) : BitVec 16 :=
  if register.msb != bit then (register <<< 1) ^^^ 0x1021 else register <<< 1

/-- The eight data bits of a byte enter, the most significant first. -/
def checkByte (register : BitVec 16) (b : Byte) : BitVec 16 :=
  [7, 6, 5, 4, 3, 2, 1, 0].foldl (fun r i => checkBit r (b.getLsbD i)) register

/-- The check over a frame's bytes in the order sent: the register starts at all ones and is not inverted. -/
def frameCheck (bytes : List Byte) : BitVec 16 := bytes.foldl checkByte 0xFFFF

end Sys2Proof.Machine
end

