-- ==== Sys2Proof/Machine/Flags.lean ====
section
/-!
DEFINITION. The coded values: kind codes, state codes, result codes and the flag bytes that TALLY and REPORT
frames carry (R111, R132, R143, R186 to R188).
-/

namespace Sys2Proof.Machine

open Sys2Proof

/-- A flag at a bit of a byte. -/
def bitAt (i : Nat) (b : Bool) : Byte := if b then BitVec.ofNat 8 (2 ^ i) else 0

/-- The kind code of a frame (R132). -/
def kindCode : Kind → Nat
  | .held => 0
  | .yield => 1
  | .free => 2
  | .claim => 3
  | .recount => 4
  | .recall => 5
  | .report => 6
  | .tally => 7

/-- The arbitration byte: kind code in the top three bits, sender number below (R127). -/
def arbitrationByte (kind : Kind) (sender : Nat) : Byte := BitVec.ofNat 8 (kindCode kind * 32 + sender)

/-- The bytes of a frame on the line before its check (R127). -/
def wireBytes (sender : Nat) (f : TxFrame) : List Byte :=
  [arbitrationByte f.kind sender, oneByte f.content.length] ++ f.content

/-- The bytes of a frame on the line, its check last, most significant byte first (R127). -/
def frameBytes (sender : Nat) (f : TxFrame) : List Byte :=
  wireBytes sender f ++ twoBytes (frameCheck (wireBytes sender f))

/-- A data bit on the line: 0 is sent dominant and 1 recessive (R126). -/
def bitLevel (b : Bool) : LineLevel := if b then .recessive else .dominant

/-- The ten bits of a byte: a dominant start bit, the data bits with the most significant first, and a recessive
stop bit (R126). -/
def byteLevels (b : Byte) : List LineLevel :=
  [.dominant] ++ [7, 6, 5, 4, 3, 2, 1, 0].map (fun i => bitLevel (b.getLsbD i)) ++ [.recessive]

/-- The levels that a sender drives for a frame: its bytes, and the spoil slot left recessive (R126, R127). -/
def frameLevels (sender : Nat) (f : TxFrame) : List LineLevel :=
  (frameBytes sender f).flatMap byteLevels ++ [.recessive]

/-- The mode code of a TALLY (R143); STRAP_FAULT sends none. -/
def modeCode : Mode → Byte
  | .strapFault => 0
  | .unset => 0
  | .recovering => 1
  | .run => 2

/-- The mode that a code names. -/
def modeOf (b : Byte) : Option Mode :=
  if b = 0 then some .unset else if b = 1 then some .recovering else if b = 2 then some .run else none

/-- The flags byte of a TALLY (R111, R143). -/
def tallyFlags (driveHold linkRecovered anyOverstay : Bool) : Byte :=
  bitAt 0 driveHold ||| bitAt 1 linkRecovered ||| bitAt 2 anyOverstay

/-- A locker state's place in the table of 2.4, counted from 1 (R187). -/
def LockerState.code : LockerState → Byte
  | .free => 1
  | .claiming => 2
  | .unbolting => 3
  | .unbolted => 4
  | .opened => 5
  | .locked => 6
  | .unsecured => 7
  | .jammed => 8
  | .orphan => 9
  | .outOfService => 10

/-- A return state as coded in READ LOCKER: 0 absent (R187). -/
def returnCode : Option LockerState → Byte
  | none => 0
  | some st => LockerState.code st

def purposeCode : Option Purpose → Byte
  | none => 0
  | some .first => 1
  | some .retrieve => 2
  | some .attendant => 3

/-- The door level, the bolt level and the forced mark in one byte (R187). -/
def levelsByte (doorOpen boltRetracted forced : Bool) : Byte :=
  bitAt 0 doorOpen ||| bitAt 1 boltRetracted ||| bitAt 2 forced

/-- The request phase: 0 no request, 1 WAITING, 2 PULL, 3 REST, 4 HOLD (R187). -/
def phaseCode : Option DriveRequest → Byte
  | none => 0
  | some r =>
    match r.phase with
    | .waiting => 1
    | .pull _ _ => 2
    | .rest _ => 3
    | .hold => 4

def attemptCode : Option DriveRequest → Byte
  | none => 0
  | some r => oneByte r.attempt

/-- The level of a drive output (R144). -/
inductive OutputLevel where
  | off
  | fullOn
  | holdDuty
  deriving DecidableEq, Repr

def OutputLevel.code : OutputLevel → Byte
  | .off => 0
  | .fullOn => 1
  | .holdDuty => 2

/-- The flags of a holding (R187). -/
def holdingFlags (h : Holding) : Byte :=
  bitAt 0 h.overstay ||| bitAt 1 h.double ||| bitAt 2 h.unannounced ||| bitAt 3 h.recovered |||
    bitAt 4 h.forced

def claimStateCode : ClaimState → Byte
  | .queued => 1
  | .sent _ => 2

def flagCode (b : Bool) : Byte := if b then 1 else 0

/-- A cabin state's place in the table of 5.2, counted from 1 (R188). -/
def CabinState.code : CabinState → Byte
  | .free => 1
  | .reserved => 2
  | .admitting => 3
  | .occupied => 4
  | .outOfService => 5
  | .fault => 6

def latchPositionCode : Latch → Byte
  | .unlatched => 0
  | .latched => 1

def latchTargetCode : Option Latch → Byte
  | none => 0
  | some .latched => 1
  | some .unlatched => 2

def Presence.code : Presence → Byte
  | .clear => 0
  | .seen => 1
  | .confirmed => 2

def cabinFlags (c : Cabin) : Byte := bitAt 0 c.overstay ||| bitAt 1 c.latchMoving

def entryStateCode : EntryState → Byte
  | .waiting => 1
  | .reserved _ => 2

/-- A start cause's code, 0 to 4 (R186). -/
def StartCause.code : StartCause → Byte
  | .powerOn => 0
  | .supplyLow => 1
  | .resetLine => 2
  | .ordered => 3
  | .retentionBad => 4

/-- The drive status: bits 0 to 3 for the groups whose latch is FAULTED, bit 4 for hold-down (R186). -/
def driveStatus (latches : BitVec 4) (holdDown : Bool) : Byte := latches.setWidth 8 ||| bitAt 4 holdDown

/-- The results of an order (R143). -/
inductive OrderResult where
  | done
  | data
  | refusedState
  | refusedRange
  | refusedSetupClosed
  | refusedFaultActive
  | refusedNoSuch
  deriving DecidableEq, Repr

def OrderResult.code : OrderResult → Byte
  | .done => 0
  | .data => 1
  | .refusedState => 2
  | .refusedRange => 3
  | .refusedSetupClosed => 4
  | .refusedFaultActive => 5
  | .refusedNoSuch => 6

end Sys2Proof.Machine
end

