-- ==== Sys2Proof/Machine/Messages.lean ====
section
/-!
DEFINITION. The texts of the message catalogue as characters (R177, Table 13), and what the message line
shows of a text (R175).
-/

namespace Sys2Proof.Machine

open Sys2Proof

/-- A decimal digit. -/
def digit (n : Nat) : Char := Char.ofNat (48 + n % 10)

/-- A placeholder of one digit. -/
def oneDigit (n : Nat) : List Char := [digit n]

/-- A placeholder of two digits, with its leading zero; free above 99 (R177). -/
def twoDigits (n : Nat) : List Char :=
  if n ≤ 99 then [digit (n / 10), digit n] else [(Config.wideNumber n).1, (Config.wideNumber n).2]

/-- The characters of a text. -/
def Text.chars : Text → List Char
  | .notReady => "NOT READY".toList
  | .bandNotValid => "BAND NOT VALID".toList
  | .locker n => "LOCKER ".toList ++ twoDigits n
  | .lockerOpening n => "LOCKER ".toList ++ twoDigits n ++ " (OPENING)".toList
  | .lockerOpenDoor n => "LOCKER ".toList ++ twoDigits n ++ " – OPEN DOOR".toList
  | .lockerReleased n => "LOCKER ".toList ++ twoDigits n ++ " RELEASED".toList
  | .seeAttendant => "SEE ATTENDANT".toList
  | .pleaseWait => "PLEASE WAIT".toList
  | .goToBank b l => "GO TO BANK ".toList ++ twoDigits b ++ " LOCKER ".toList ++ twoDigits l
  | .linkBusy => "LINK BUSY – TRY AGAIN".toList
  | .tryAgain => "TRY AGAIN".toList
  | .noLockerHere b => "NO LOCKER FREE HERE – BANK ".toList ++ twoDigits b
  | .allLockersFull => "ALL LOCKERS FULL".toList
  | .cabinReady c => "CABIN ".toList ++ oneDigit c ++ " READY".toList
  | .cabinEnter c => "CABIN ".toList ++ oneDigit c ++ " – ENTER".toList
  | .goToCabin c => "GO TO CABIN ".toList ++ oneDigit c
  | .queueAbout p m => "QUEUE ".toList ++ twoDigits p ++ " – ABOUT ".toList ++ twoDigits m ++ " MIN".toList
  | .queueClosed p => "QUEUE ".toList ++ twoDigits p ++ " – CABINS CLOSED".toList
  | .cabin c => "CABIN ".toList ++ oneDigit c
  | .cabinsClosed => "CABINS CLOSED".toList
  | .cabinQueueFull => "CABIN QUEUE FULL".toList
  | .cabinsFaster b => "CABINS FASTER AT BANK ".toList ++ twoDigits b
  | .idleCounts ss ll c =>
    "FREE ".toList ++ twoDigits ss ++ " STD ".toList ++ twoDigits ll ++ " LRG CAB ".toList ++ oneDigit c
  | .strapFault => "STRAP FAULT".toList

/-- The length of a text. -/
def Text.length (t : Text) : Nat := (Text.chars t).length

/-- A text is longer than the line and scrolls (R175). -/
def Text.scrolls (t : Text) : Bool := 24 < Text.length t

/-- The 24 characters shown of a text at a scroll position: left-aligned with blanks after it, or, for a text
that scrolls, 24 characters of the circular sequence of the text and 4 blanks (R175). -/
def Text.window (t : Text) (scroll : Nat) : List Char :=
  let chars := Text.chars t
  if Text.scrolls t then
    let sequence := chars ++ List.replicate 4 ' '
    (List.range 24).map fun i => (sequence[(scroll + i) % sequence.length]?).getD ' '
  else chars ++ List.replicate (24 - chars.length) ' '

/-- The message buffer's characters: the first text, then the second (R173). -/
def Message.buffer (m : Message) : List Char :=
  Text.chars m.first ++ (match m.second with
    | some t => Text.chars t
    | none => [])

end Sys2Proof.Machine
end

