-- ==== Sys2Proof/Machine/Ops.lean ====
section
/-!
DEFINITION. The operations every block uses: how a meaning acts on the state, the block's time, handing an
event on and taking it, looking up and changing records, the sensed levels, and posting to the panel.
-/

namespace Sys2Proof.Machine

open Sys2Proof

/-- What a command answers. -/
abbrev Result := Host.Outcome State Fault Refusal

/-! ### Meanings, time and deliveries -/

/-- Two commands are the same event: equal, or both the end of the warm start, or both a sample instant
(whose operands only the moment itself gives). -/
def sameEvent : Instr → Instr → Bool
  | .warmStartEnd _ _ _, .warmStartEnd _ _ _ => true
  | .senseSample _, .senseSample _ => true
  | c, d => decide (c = d)

/-- The command is being taken: it no longer waits among the events handed on. -/
def Station.take (c : Instr) (s : Station) : Station :=
  { s with deliveries := s.deliveries.eraseP (sameEvent c) }

/-- An event is handed to the block that owns it, which takes it as a command of its own. -/
def Station.deliver (c : Instr) (s : Station) : Station := { s with deliveries := s.deliveries ++ [c] }

/-- A command acts on the station; the queue of commands is left alone. -/
def perform (c : Instr) (f : Station → Station) (s : State) : Result :=
  .next { s with station := f (s.station.take c) }

/-- The moment `t` has come: the block's time is at least `t`. -/
def Station.reach (t : Moment) (s : Station) : Station := { s with now := max s.now t }

/-- The blocks run: no start is in progress, and the straps are valid (R192, R195). -/
def Station.live (s : Station) : Bool :=
  decide (s.restart.phase = .running) && decide (s.restart.mode ≠ .strapFault)

/-- An event has its effect only while the blocks run. -/
def whenLive (f : Station → Station) (s : Station) : Station := if s.live then f s else s

/-- The blocks run and the station mode is RUN. -/
def Station.serving (s : Station) : Bool := s.live && decide (s.restart.mode = .run)

/-! ### Records -/

def Station.locker? (s : Station) (n : Nat) : Option Locker :=
  s.lockers.lockers.find? fun l => decide (l.number = n)

def Station.lockerState (s : Station) (n : Nat) : Option LockerState := (s.locker? n).map (·.state)

def Station.changeLocker (n : Nat) (f : Locker → Locker) (s : Station) : Station :=
  { s with lockers.lockers := updateWhere (fun l => decide (l.number = n)) f s.lockers.lockers }

def Station.holdingAt (s : Station) (n : Nat) : Option Holding :=
  s.lockers.holdings.find? fun h => decide (h.locker = n)

def Station.holdingOf (s : Station) (p : PartyKey) : Option Holding :=
  s.lockers.holdings.find? fun h => decide (h.party = p)

def Station.changeHolding (n : Nat) (f : Holding → Holding) (s : Station) : Station :=
  { s with lockers.holdings := updateWhere (fun h => decide (h.locker = n)) f s.lockers.holdings }

def Station.claimOf (s : Station) (p : PartyKey) : Option Claim :=
  s.claims.claims.find? fun c => decide (c.party = p)

def Station.claimAt (s : Station) (n : Nat) : Option Claim :=
  s.claims.claims.find? fun c => decide (c.locker = n)

def Station.changeClaim (p : PartyKey) (f : Claim → Claim) (s : Station) : Station :=
  { s with claims.claims := updateWhere (fun c => decide (c.party = p)) f s.claims.claims }

def Station.cabin? (s : Station) (n : Nat) : Option Cabin :=
  s.cabins.cabins.find? fun c => decide (c.number = n)

def Station.cabinState (s : Station) (n : Nat) : Option CabinState := (s.cabin? n).map (·.state)

def Station.changeCabin (n : Nat) (f : Cabin → Cabin) (s : Station) : Station :=
  { s with cabins.cabins := updateWhere (fun c => decide (c.number = n)) f s.cabins.cabins }

def Station.queueEntry (s : Station) (serial : BitVec 24) : Option QueueEntry :=
  s.cabins.queue.find? fun e => decide (e.serial = serial)

def Station.changeEntry (serial : BitVec 24) (f : QueueEntry → QueueEntry) (s : Station) : Station :=
  { s with cabins.queue := updateWhere (fun e => decide (e.serial = serial)) f s.cabins.queue }

def Station.removeEntry (serial : BitVec 24) (s : Station) : Station :=
  { s with cabins.queue := s.cabins.queue.filter fun e => decide (e.serial ≠ serial) }

def Station.request? (s : Station) (output : Nat) : Option DriveRequest :=
  s.drive.queue.find? fun r => decide (r.output = output)

def Station.pad? (s : Station) (n : Nat) : Option Pad := s.scan.pads.find? fun p => decide (p.number = n)

def Station.changePad (n : Nat) (f : Pad → Pad) (s : Station) : Station :=
  { s with scan.pads := updateWhere (fun p => decide (p.number = n)) f s.scan.pads }

def Station.input? (s : Station) (r : Reader) : Option ReaderInput :=
  s.taps.inputs.find? fun i => decide (i.reader = r)

def Station.changeInput (r : Reader) (f : ReaderInput → ReaderInput) (s : Station) : Station :=
  { s with taps.inputs := updateWhere (fun i => decide (i.reader = r)) f s.taps.inputs }

/-! ### Sensed levels (chapter 9) -/

/-- A filtered level as sensed; free while the filters of a start are being loaded (R165). -/
def Station.senses (s : Station) (made : Bool) (input : Nat) : Bool :=
  if s.scan.loaded then made else Config.unloadedLevel s.now input

/-- The door of locker n is sensed CLOSED. -/
def Station.doorClosed (s : Station) (n : Nat) : Bool :=
  s.senses (s.scan.level.door.getLsbD (n - 1)) (n - 1)

/-- The bolt of locker n is sensed ENGAGED. -/
def Station.boltEngaged (s : Station) (n : Nat) : Bool :=
  s.senses (s.scan.level.bolt.getLsbD (n - 1)) (59 + n)

/-- The filtered level of the latch of cabin c. -/
def Station.latchLevel (s : Station) (c : Nat) : Latch :=
  if s.senses (s.scan.level.latch.getLsbD (c - 1)) (119 + c) then .latched else .unlatched

/-- The presence state of the pad of cabin c (R164). -/
def Station.presence (s : Station) (c : Nat) : Presence :=
  match s.pad? c with
  | some p => p.presence
  | none => .clear

/-! ### The panel (chapter 10) -/

/-- R173: the message replaces the one shown, the pair phase and the scroll start afresh, and the hold of
8 s starts. A pair's first turn lasts 2 s (R174). -/
def Station.postMessage (m : Message) (s : Station) : Station :=
  { s with
    panel.message := some m
    panel.secondTurn := false
    panel.scroll := 0
    panel.stepCount := 0
    panel.holdEnd := some (s.now + 8000)
    panel.turnEnd := if m.second.isSome then some (s.now + 2000) else none
    panel.line := Text.window m.first 0 }

/-- Post one text. -/
def Station.post (t : Text) (s : Station) : Station := s.postMessage { first := t, second := none }

/-- R171: the cursor is placed on the locker's cell, or stays there, and its 15 s timer starts afresh. -/
def Station.placeCursor (n : Nat) (s : Station) : Station :=
  { s with panel.cursor := some n, panel.cursorTimer := some (s.now + 15000) }

/-- R172: the cursor leaves the panel. -/
def Station.removeCursor (s : Station) : Station :=
  { s with panel.cursor := none, panel.cursorTimer := none }

/-! ### Free counts (R110, R176) -/

/-- Locker l is FREE with its door sensed CLOSED. -/
def Station.freeClosed (s : Station) (l : Locker) : Bool :=
  decide (l.state = .free) && s.doorClosed l.number

/-- The number of lockers of a size that are FREE with the door sensed CLOSED. -/
def Station.freeCount (s : Station) (size : Size) : Nat :=
  (s.lockers.lockers.filter fun l => decide (l.size = size) && s.freeClosed l).length

/-- The number of FREE cabins. -/
def Station.freeCabins (s : Station) : Nat :=
  (s.cabins.cabins.filter fun c => decide (c.state = .free)).length

/-- C: the number of cabins in FREE, RESERVED, ADMITTING or OCCUPIED (5.2). -/
def Station.cabinsInService (s : Station) : Nat :=
  (s.cabins.cabins.filter fun c => decide (c.state ≠ .outOfService) && decide (c.state ≠ .fault)).length

end Sys2Proof.Machine
end

