-- ==== Sys2Proof/Machine/LinkOps.lean ====
section
/-!
DEFINITION. The transmit queue and the link state (chapter 7): offering and withdrawing a frame, the end of an
attempt, and going DOWN. A report to a frame's owner is put into `Link.reports`; Machine/Reports.lean lets the
owners take their reports, in the order of their causes (R138).
-/

namespace Sys2Proof.Machine

open Sys2Proof

/-- R138: a frame's owner is told its fate. Each "not sent" adds 1 to frames lost, and nothing else does. -/
def Station.reportFate (f : TxFrame) (fate : Fate) (s : Station) : Station :=
  { s with
    link.reports := s.link.reports ++ [{ frame := f, fate }]
    link.framesLost :=
      match fate with
      | .notSent => satInc s.link.framesLost
      | .refusedDown => satInc s.link.framesLost
      | .delivered => s.link.framesLost
      | .emptied => s.link.framesLost }

/-- The frame's place in the order: behind every frame of its own kind code or a smaller one (R134). -/
def insertFrame (f : TxFrame) (queue : List TxFrame) : List TxFrame :=
  queue.takeWhile (fun g => kindCode g.kind ≤ kindCode f.kind) ++
    f :: queue.dropWhile (fun g => kindCode g.kind ≤ kindCode f.kind)

/-- `f` was queued later than `g`. -/
def queuedLater (f g : TxFrame) : Bool :=
  g.queueTime < f.queueTime || (g.queueTime == f.queueTime && g.id < f.id)

/-- R135: the newest by queue time of the waiting frames whose kind code is larger. -/
def evictable (code : Nat) (queue : List TxFrame) : Option TxFrame :=
  (queue.filter fun g => !g.onLine && code < kindCode g.kind).foldl
    (fun best g =>
      match best with
      | none => some g
      | some b => if queuedLater g b then some g else some b)
    none

def removeFrame (id : Nat) (queue : List TxFrame) : List TxFrame :=
  queue.filter fun g => decide (g.id ≠ id)

/-- A waiting TALLY stands in the queue (R136). -/
def waitingTally (queue : List TxFrame) : Bool :=
  queue.any fun g => decide (g.kind = .tally) && !g.onLine

/-- The frame an owner offers at this moment. -/
def Station.newFrame (kind : Kind) (content : List Byte) (owner : Owner) (role : Role) (s : Station) :
    TxFrame :=
  { id := s.link.nextFrame, kind, content, owner, role, queueTime := s.now, attempts := 0,
    onLine := false, withdrawn := false }

/-- R135, R136, R140: a frame is offered to the transmit queue. It enters at its place; or it takes the place
of a waiting TALLY; or it evicts the newest waiting frame of larger kind code; or it is dropped. While the
link is DOWN only RECALL and REPORT are entered. -/
def Station.offer (kind : Kind) (content : List Byte) (owner : Owner) (role : Role) (s : Station) :
    Station :=
  let f := s.newFrame kind content owner role
  let s := { s with link.nextFrame := s.link.nextFrame + 1 }
  if !s.link.up && decide (kind ≠ .recall) && decide (kind ≠ .report) then s.reportFate f .refusedDown
  else if decide (kind = .tally) && waitingTally s.link.queue then
    { s with
      link.queue :=
        insertFrame f (s.link.queue.filter fun g => !(decide (g.kind = .tally) && !g.onLine)) }
  else if s.link.queue.length < 12 then { s with link.queue := insertFrame f s.link.queue }
  else
    match evictable (kindCode kind) s.link.queue with
    | some g =>
      let s := s.reportFate g .notSent
      { s with link.queue := insertFrame f (removeFrame g.id s.link.queue) }
    | none => s.reportFate f .notSent

/-- R137: the owner withdraws its frame. A waiting frame leaves the queue; the frame on the line is marked,
and its attempt runs on. -/
def Station.withdrawFrame (id : Nat) (s : Station) : Station :=
  { s with
    link.queue :=
      (s.link.queue.filter fun g => g.onLine || decide (g.id ≠ id)).map fun g =>
        if g.id = id then { g with withdrawn := true } else g }

/-- The frame on the line. -/
def Station.frameOnLine (s : Station) : Option TxFrame := s.link.queue.find? (·.onLine)

/-- R127, R139: the line has been recessive: the dominant watch is 0, and this station drives no spoil slot. -/
def Station.clearWatch (s : Station) : Station :=
  { s with link.dominantWatch := 0, link.spoilSlot := .recessive }

/-- R126, R134: the line becomes free, after a gap of recessive bits, and the first entry of the queue contends. -/
def Station.startAttempt (s : Station) : Station :=
  let s := s.clearWatch
  match s.frameOnLine, s.link.queue with
  | none, f :: rest => { s with link.queue := { f with onLine := true } :: rest }
  | _, _ => s

/-- R126, R127, R130: what this station drives on the line: its own frame's bits, with its number as the sender; or
the one bit of the spoil slot of a frame it found damaged; or nothing. -/
def Station.driven (s : Station) : List LineLevel :=
  match s.frameOnLine with
  | none =>
    match s.link.spoilSlot with
    | .dominant => [.dominant]
    | .recessive => []
  | some f => frameLevels s.restart.station f

/-- The frame on the line waits again at its place, with the attempt count given. -/
def Station.waitAgain (id attempts : Nat) (s : Station) : Station :=
  { s with
    link.queue :=
      updateWhere (fun g => decide (g.id = id)) (fun g => { g with onLine := false, attempts })
        s.link.queue }

def Station.dropFrame (id : Nat) (s : Station) : Station :=
  { s with link.queue := removeFrame id s.link.queue }

/-- The attempt's frame is not to be sent again: its owner has withdrawn it (R137), or it is a TALLY behind
which a newer one waits (R136). -/
def Station.superseded (f : TxFrame) (s : Station) : Bool :=
  f.withdrawn || (decide (f.kind = .tally) && waitingTally s.link.queue)

/-- R128: the attempt loses arbitration. Its frame waits again unchanged, or leaves without a report. The attempt
began after a gap of recessive bits (R139). -/
def Station.loseArbitration (s : Station) : Station :=
  match s.frameOnLine with
  | none => s
  | some f =>
    let s := s.clearWatch
    if s.superseded f then s.dropFrame f.id else s.waitAgain f.id f.attempts

/-- R139: the link goes DOWN. The transmit queue is emptied, each CLAIM reported "emptied" and every other
frame "not sent"; the directory's RECOUNT count returns to 0 (R83), and the announcement walk ends with its
list (R64). DESIGN CHOICE: the frames removed are reported in the order of the queue, which orders the local
confirmations of several claims and their drive requests; R62 and R139 give no order (notes/assumptions/33.md). -/
def Station.goDown (s : Station) : Station :=
  let removed := s.link.queue
  let s :=
    { s with
      link.up := false
      link.queue := []
      link.losses := 0
      link.recessiveSeen := false
      directory.recounts := 0
      claims.announcements := []
      claims.walk := none }
  removed.foldl
    (fun s f => s.reportFate f (if f.kind = .claim then .emptied else .notSent)) s

/-- R131: the attempt ends spoiled. The attempt count rises and the frame waits again at its place; after a
fourth spoil it leaves the queue, is reported "not sent" and raises the successive-loss count, which does
not run while the link is DOWN (R140). The attempt put recessive bits on the line (R139). -/
def Station.spoilAttempt (s : Station) : Station :=
  match s.frameOnLine with
  | none => s
  | some f =>
    let s := s.clearWatch
    if s.superseded f then s.dropFrame f.id
    else if f.attempts + 1 < 4 then s.waitAgain f.id (f.attempts + 1)
    else
      let s := (s.dropFrame f.id).reportFate { f with attempts := f.attempts + 1, onLine := false } .notSent
      { s with link.losses := if s.link.up then s.link.losses + 1 else s.link.losses }

/-- R131: the attempt has delivered its frame: the frame leaves the queue, its owner is told, and the
successive-loss count is 0. -/
def Station.deliverAttempt (f : TxFrame) (s : Station) : Station :=
  let s := (s.dropFrame f.id).reportFate { f with onLine := false } .delivered
  { s with link.losses := 0 }

end Sys2Proof.Machine
end

