-- ==== Sys2Proof/Machine/DirectoryOps.lean ====
section
/-!
DEFINITION. The party directory (chapter 4): learning a fact, deleting an entry, the redirect list, the
doubtful mark, and the production of RECOUNT frames.
-/

namespace Sys2Proof.Machine

open Sys2Proof

def Station.entryOf (s : Station) (p : PartyKey) : Option DirectoryEntry :=
  s.directory.cache.find? fun e => decide (e.party = p)

def Station.withoutEntry (p : PartyKey) (s : Station) : List DirectoryEntry :=
  s.directory.cache.filter fun e => decide (e.party ≠ p)

/-- R72: a fact is written at the newest end. It replaces the party's entry, with both marks clear; or it is
inserted, into a full cache in place of the entry at the oldest end. -/
def Station.learn (p : PartyKey) (holder locker : Nat) (serial : BitVec 24) (s : Station) : Station :=
  let fact : DirectoryEntry := { party := p, holder, locker, serial, doubtful := false, recountDue := false }
  let rest :=
    if (s.entryOf p).isSome then s.withoutEntry p
    else if 128 ≤ s.directory.cache.length then s.directory.cache.drop 1
    else s.directory.cache
  { s with directory.cache := rest ++ [fact] }

/-- R73: the tests of a CLAIM, HELD or RECOUNT frame's content before it is used. -/
def usableFact (holder locker : Nat) : Bool :=
  1 ≤ holder && holder ≤ 27 && 1 ≤ locker && locker ≤ 60

/-- R77: a YIELD or a FREE from a station deletes the party's entry if the entry names that station. -/
def Station.forget (p : PartyKey) (sender : Nat) (s : Station) : Station :=
  match s.entryOf p with
  | some e => if e.holder = sender then { s with directory.cache := s.withoutEntry p } else s
  | none => s

/-- R71: a touch moves the party's entry to the newest end. -/
def Station.touchEntry (p : PartyKey) (s : Station) : Station :=
  match s.entryOf p with
  | some e => { s with directory.cache := s.withoutEntry p ++ [e] }
  | none => s

/-- R79: an insist tap marks the entry doubtful, which is no touch. -/
def Station.markDoubtful (p : PartyKey) (s : Station) : Station :=
  { s with
    directory.cache :=
      updateWhere (fun e => decide (e.party = p)) (fun e => { e with doubtful := true }) s.directory.cache }

/-- R80: an insist claim for the party has been confirmed: its entry goes if it still is doubtful. -/
def Station.deleteDoubtful (p : PartyKey) (s : Station) : Station :=
  { s with directory.cache := s.directory.cache.filter fun e => !(decide (e.party = p) && e.doubtful) }

/-- The redirect record of a band. -/
def Station.redirectOf (s : Station) (serial : BitVec 24) : Option Redirect :=
  s.directory.redirects.find? fun r => decide (r.serial = serial)

/-- R78: the list without its record of earliest moment. DESIGN CHOICE: of records with one earliest moment the one
that stands first in the list leaves; R78 does not say which (notes/assumptions/36.md). -/
def withoutEarliest (l : List Redirect) : List Redirect :=
  match l with
  | [] => []
  | r :: rest =>
    let earliest := rest.foldl (fun best x => if x.moment < best.moment then x else best) r
    l.erase earliest

def Station.removeRedirect (serial : BitVec 24) (s : Station) : Station :=
  { s with directory.redirects := s.directory.redirects.filter fun r => decide (r.serial ≠ serial) }

/-- R78: this station has redirected a band at a moment. -/
def Station.recordRedirect (serial : BitVec 24) (moment : Moment) (s : Station) : Station :=
  match s.redirectOf serial with
  | some _ =>
    { s with
      directory.redirects :=
        updateWhere (fun r => decide (r.serial = serial)) (fun r => { r with moment })
          s.directory.redirects }
  | none =>
    let kept :=
      if 16 ≤ s.directory.redirects.length then withoutEarliest s.directory.redirects
      else s.directory.redirects
    { s with directory.redirects := kept ++ [{ serial, moment }] }

/-- R79: a tap at `time` of a band redirected at `moment` is an insist tap: 3 s to 30 s, inclusive. At exactly
30 s the record may already be gone (notes/assumptions/42.md). -/
def insistSpan (moment time : Moment) : Bool := moment + 3000 ≤ time && time ≤ moment + 30000

/-- What the directory decides for a tap at step 3 of R24. -/
inductive Lookup where
  | miss
  | redirect (entry : DirectoryEntry)
  | insist
  deriving DecidableEq, Repr

/-- R79: the lookup of a tap. -/
def Station.lookup (s : Station) (tap : Tap) : Lookup :=
  match s.entryOf tap.party with
  | none => .miss
  | some e =>
    match s.redirectOf tap.serial with
    | none => .redirect e
    | some r => if insistSpan r.moment tap.time then .insist else .redirect e

/-- R81: a RECALL from a station marks every entry that names it. -/
def Station.markRecount (holder : Nat) (s : Station) : Station :=
  { s with
    directory.cache :=
      updateWhere (fun e => decide (e.holder = holder)) (fun e => { e with recountDue := true })
        s.directory.cache }

/-- R82: the mark of a party's entry is cleared as the entry is acted on. -/
def Station.clearRecount (p : PartyKey) (s : Station) : Station :=
  { s with
    directory.cache :=
      updateWhere (fun e => decide (e.party = p)) (fun e => { e with recountDue := false })
        s.directory.cache }

/-- R82: one entry acted on: the marked entry nearest the oldest end loses its mark and, unless its band is 0,
is queued as a RECOUNT; none when production rests. -/
def Station.produceOne (s : Station) : Option Station :=
  if s.directory.recounts < 2 && s.link.up then
    match s.directory.cache.find? (·.recountDue) with
    | none => none
    | some e =>
      let s := s.clearRecount e.party
      if e.serial = 0 then some s
      else
        let s := s.offer .recount (recountContent e.holder e.party e.locker e.serial) .directory .plain
        some { s with directory.recounts := s.directory.recounts + 1 }
  else none

/-- R82: production goes on until the count is 2 or no marked entry is left. Each entry acted on loses its
mark, so `fuel` above 128 is never used up. -/
def produceRecounts : Nat → Station → Station
  | 0, s => s
  | fuel + 1, s =>
    match s.produceOne with
    | none => s
    | some t => produceRecounts fuel t

def Station.produce (s : Station) : Station := produceRecounts 130 s

/-- R83: a RECOUNT has been reported: the count falls by 1 and production goes on. -/
def Station.recountReported (s : Station) : Station :=
  { s with directory.recounts := s.directory.recounts - 1 }.produce

end Sys2Proof.Machine
end

