-- ==== Sys2Proof/Machine/DriveOps.lean ====
section
/-!
DEFINITION. The drive arbiter (chapter 8): outputs and groups, making and withdrawing a request, granting
slots, pull times; and the part of the cabin unit that the grants call back, the latch of a cabin (5.3).
-/

namespace Sys2Proof.Machine

open Sys2Proof

/-! ### Outputs and groups (R144) -/

/-- Locker n drives output n - 1. -/
def lockerOutput (n : Nat) : Nat := n - 1

/-- Cabin c drives output 59 + c. -/
def cabinOutput (c : Nat) : Nat := 59 + c

/-- Outputs 0 to 59 belong to lockers, 60 to 67 to cabins. -/
def isCabinOutput (output : Nat) : Bool := 60 ≤ output

/-- The drive group of an output: 0 to 16, 17 to 33, 34 to 50 and 51 to 67. -/
def groupOf (output : Nat) : Nat := output / 17

/-- The group's fault latch is FAULTED. -/
def Station.faulted (s : Station) (group : Nat) : Bool := s.drive.latches.getLsbD group

/-- The level of an output: full on in PULL, hold duty in HOLD, off otherwise (R144). -/
def Station.outputLevel (s : Station) (output : Nat) : OutputLevel :=
  match s.request? output with
  | none => .off
  | some r =>
    match r.phase with
    | .pull _ _ => .fullOn
    | .hold => .holdDuty
    | .waiting => .off
    | .rest _ => .off

/-- R148: the pull time of an attempt, in ms: T, then 3T ÷ 2 rounded down, then 2T, none above 250. -/
def pullTime (t attempt : Nat) : Nat :=
  min 250 (if attempt = 1 then t else if attempt = 2 then 3 * t / 2 else 2 * t)

/-! ### The queue (R145, R152) -/

/-- R145: a request enters at the tail with attempt 1, unless its output already has one. -/
def Station.enqueue (output : Nat) (purpose : DrivePurpose) (s : Station) : Station :=
  if (s.request? output).isSome then s
  else
    { s with drive.queue := s.drive.queue ++ [{ output, purpose, attempt := 1, phase := .waiting }] }

def Station.changeRequest (output : Nat) (f : DriveRequest → DriveRequest) (s : Station) : Station :=
  { s with drive.queue := updateWhere (fun r => decide (r.output = output)) f s.drive.queue }

def Station.removeRequest (output : Nat) (s : Station) : Station :=
  { s with drive.queue := s.drive.queue.filter fun r => decide (r.output ≠ output) }

/-- R151: the slot rests for 20 ms. -/
def Station.restSlot (slot : Nat) (s : Station) : Station :=
  { s with
    drive.slots :=
      updateWhere (fun k => decide (k.number = slot)) (fun k => { k with restUntil := some (s.now + 20) })
        s.drive.slots }

/-- R152: the owner withdraws or ends its request in any phase. A pull cut short leaves its slot to rest. No
report is made. -/
def Station.withdrawDrive (output : Nat) (s : Station) : Station :=
  match s.request? output with
  | none => s
  | some r =>
    match r.phase with
    | .pull slot _ => (s.restSlot slot).removeRequest output
    | .waiting => s.removeRequest output
    | .rest _ => s.removeRequest output
    | .hold => s.removeRequest output

/-- R34, R149, R152: the locker table withdraws the request of locker n at the moment `t` when its grant wait
expires. A pull that ran to its end before `t` has been checked at its end: its PULLED report is on its way to the
locker table, and a third failed attempt has jammed. A pull that would end at `t` or later is cut short, with no
check, since the withdrawal is taken first (notes/assumptions/31.md). -/
def Station.withdrawGrant (n : Nat) (t : Moment) (s : Station) : Station :=
  let withdrawn := (s.reach t).withdrawDrive (lockerOutput n)
  match s.request? (lockerOutput n) with
  | none => withdrawn
  | some r =>
    match r.phase with
    | .pull _ ends =>
      if ends < t then
        { ((s.reach ends).withdrawDrive (lockerOutput n)).reach t with
          drive.late := s.drive.late ++ [lockerOutput n]
          drive.jams := if s.boltEngaged n && decide (3 ≤ r.attempt) then satInc s.drive.jams else s.drive.jams }
      else withdrawn
    | _ => withdrawn

/-! ### The latch of a cabin (R87, R88) -/

/-- R87: the target of the request that the cabin needs: its target differs from its position, and no
request is in flight. -/
def latchWanted (c : Cabin) : Option Latch :=
  match c.latchTarget with
  | none => none
  | some t => if c.latchPosition ≠ t && !c.latchMoving then some t else none

/-- R87: the comparison, up to putting the request into the queue. -/
def Station.enqueueLatch (n : Nat) (s : Station) : Station :=
  match (s.cabin? n).bind latchWanted with
  | none => s
  | some t =>
    (s.enqueue (cabinOutput n) (.latch t)).changeCabin n fun c => { c with latchMoving := true }

/-- R88: a latch request is done: LATCH_MOVING is cleared and the comparison is made again. -/
def Station.latchDone (n : Nat) (s : Station) : Station :=
  (s.changeCabin n fun c => { c with latchMoving := false }).enqueueLatch n

/-! ### Slots and grants (R146 to R148) -/

/-- A slot is free and not resting. -/
def Station.slotFree (s : Station) (k : Slot) : Bool :=
  k.restUntil.isNone &&
    !(s.drive.queue.any fun r =>
      match r.phase with
      | .pull slot _ => decide (slot = k.number)
      | _ => false)

/-- R146: the lowest-numbered free slot that is not resting. -/
def Station.freeSlot (s : Station) : Option Nat := (s.drive.slots.find? s.slotFree).map (·.number)

/-- R146: the first WAITING request in queue order whose group is not FAULTED. -/
def Station.grantable (s : Station) : Option DriveRequest :=
  s.drive.queue.find? fun r => decide (r.phase = .waiting) && !s.faulted (groupOf r.output)

/-- R147: a latch request already at its target. A bolt request is not tested. -/
def Station.atTarget (s : Station) (r : DriveRequest) : Bool :=
  match r.purpose with
  | .bolt _ => false
  | .latch t => decide (s.latchLevel (r.output - 59) = t)

/-- R148: the request enters PULL in the slot, for the pull time of its attempt. -/
def Station.startPull (r : DriveRequest) (slot : Nat) (s : Station) : Station :=
  s.changeRequest r.output fun q =>
    { q with phase := .pull slot (s.now + pullTime s.orders.setup.pullTime r.attempt) }

/-- R146, R147: one grant; none when no grant can be made. A latch request found at its target ends as
REACHED without a pull. -/
def Station.grantOne (s : Station) : Option Station :=
  if s.restart.holdDown then none
  else
    match s.freeSlot, s.grantable with
    | some slot, some r =>
      if s.atTarget r then some ((s.removeRequest r.output).latchDone (r.output - 59))
      else some (s.startPull r slot)
    | _, _ => none

/-- R146: the test is repeated until no grant can be made, at most `fuel` times. -/
def grants : Nat → Station → Station
  | 0, s => s
  | fuel + 1, s =>
    match s.grantOne with
    | none => s
    | some t => grants fuel t

/-- R146: the grant test. A WAITING request is granted a pull, or is found at its target and makes way for at most
one request of the same cabin that is not: two grants for each request of the queue are enough where each cabin's
record shows its latch's level. DESIGN CHOICE: where a record does not (within one sample instant before the latch's
event is taken; before the filter load has ended, when the levels are free; and, until its next latch event, for a
cabin created before that), a request found at its target can be made anew at once and without end, on which R146 and
R147 are silent: the test stops after twice the queue's length, and may leave such a request WAITING beside a free slot
until the next grant test (notes/assumptions/9.md). -/
def Station.grantTest (s : Station) : Station := grants (2 * s.drive.queue.length) s

/-- An owner makes a request, and the grant test is made (R145, R146). -/
def Station.makeRequest (output : Nat) (purpose : DrivePurpose) (s : Station) : Station :=
  (s.enqueue output purpose).grantTest

/-- R87: the comparison of a cabin's latch target with its position, and the request it leads to. -/
def Station.compareLatch (n : Nat) (s : Station) : Station :=
  match (s.cabin? n).bind latchWanted with
  | none => s
  | some _ => (s.enqueueLatch n).grantTest

/-- R87, R88: the cabin unit sets a latch target. A request in flight for another target is withdrawn from
WAITING and from REST, and runs on in PULL. DESIGN CHOICE: so is one that an aborted pull has left with an old target,
even where the target set is the cabin's own of before (notes/assumptions/47.md). -/
def Station.setLatchTarget (n : Nat) (target : Option Latch) (s : Station) : Station :=
  let s := s.changeCabin n fun c => { c with latchTarget := target }
  match s.request? (cabinOutput n) with
  | none => s.compareLatch n
  | some r =>
    if some r.purpose = target.map DrivePurpose.latch then s
    else
      match r.phase with
      | .pull _ _ => s
      | _ =>
        ((s.withdrawDrive (cabinOutput n)).changeCabin n fun c => { c with latchMoving := false }).compareLatch n

end Sys2Proof.Machine
end

