-- ==== Sys2Proof/Machine/LockerOps.lean ====
section
/-!
DEFINITION. The locker table (chapter 2) and the announcement walk (R64): setting and settling a locker, the
end of a holding, the locker choice, and the reports of the drive arbiter on a bolt.
-/

namespace Sys2Proof.Machine

open Sys2Proof

/-! ### The announcement walk (R64) -/

/-- The next holding at or after the walk position that is UNANNOUNCED and not in the announcement list. -/
def Station.nextUnannounced (s : Station) (position : Nat) : Option Holding :=
  (s.lockers.lockers.filter fun l => position ≤ l.number).findSome? fun l =>
    s.lockers.holdings.find? fun h =>
      decide (h.locker = l.number) && h.unannounced &&
        !(s.claims.announcements.any fun a => decide (a.locker = h.locker))

/-- The size of a locker; STANDARD for a number that has no record. -/
def Station.lockerSize (s : Station) (n : Nat) : Size :=
  match s.locker? n with
  | some l => l.size
  | none => .standard

/-- R64: the announcing CLAIM of a holding is queued, its locker enters the list, and the walk moves past it,
ending when it passes the last locker. -/
def Station.announce (h : Holding) (s : Station) : Station :=
  let frame := s.link.nextFrame
  let s :=
    s.offer .claim (claimContent h.party h.locker h.serial (s.lockerSize h.locker)) .claimUnit
      (.announcement h.locker)
  { s with
    claims.announcements := s.claims.announcements ++ [{ locker := h.locker, frame }]
    claims.walk := if s.lockers.lockers.length < h.locker + 1 then none else some (h.locker + 1) }

/-- R64: one step of the walk; none when the list is full or no walk is running. -/
def Station.walkOne (s : Station) : Option Station :=
  match s.claims.walk with
  | none => none
  | some position =>
    if s.claims.announcements.length < 2 then
      match s.nextUnannounced position with
      | none => some { s with claims.walk := none }
      | some h => some (s.announce h)
    else none

/-- R64: the walk goes on while the list holds fewer than 2 lockers. It moves past a locker at each step, so
`fuel` above 60 is never used up. -/
def walkOn : Nat → Station → Station
  | 0, s => s
  | fuel + 1, s =>
    match s.walkOne with
    | none => s
    | some t => walkOn fuel t

def Station.continueWalk (s : Station) : Station := walkOn 64 s

/-- R64: a walk starts, or starts again, at locker 1. -/
def Station.startWalk (s : Station) : Station := { s with claims.walk := some 1 }.continueWalk

/-- R66: a holding carrying UNANNOUNCED has ended: its announcing CLAIM is withdrawn, and the walk goes on. -/
def Station.dropAnnouncement (n : Nat) (s : Station) : Station :=
  match s.claims.announcements.find? fun a => decide (a.locker = n) with
  | none => s
  | some a =>
    let s := s.withdrawFrame a.frame
    { s with
      claims.announcements := s.claims.announcements.filter fun b => decide (b.locker ≠ n) }.continueWalk

/-! ### The end of a holding (R21) -/

/-- R21: the holding on the locker ends. A FREE frame is queued when the link is UP and the holding was
announced. -/
def Station.endHoldingAt (n : Nat) (s : Station) : Station :=
  match s.holdingAt n with
  | none => s
  | some h =>
    let s := { s with lockers.holdings := s.lockers.holdings.filter fun g => decide (g.locker ≠ n) }
    if h.unannounced then s.dropAnnouncement n
    else if s.link.up then s.offer .free (partyLockerContent h.party n) .lockerTable .plain
    else s

/-! ### Setting a locker's state -/

/-- The drive is settled and every timer of the locker is gone (R18). -/
def Locker.settled (l : Locker) (state : LockerState) : Locker :=
  { l with
    state
    purpose := none
    returnState := none
    grantWait := none
    doorWait := none
    boltWait := none }

/-- The locker becomes FREE with its door as sensed; FREE with the door CLOSED clears the forced mark
(R41). -/
def Station.freeLocker (n : Nat) (s : Station) : Station :=
  s.changeLocker n fun l => { l.settled .free with forced := l.forced && !s.doorClosed n }

/-- The locker is settled LOCKED: the forced mark is cleared (R41), and the 2 s bolt wait starts if the bolt
is not sensed ENGAGED (R35, R38). -/
def Station.lockLocker (n : Nat) (s : Station) : Station :=
  s.changeLocker n fun l =>
    { l.settled .locked with
      forced := false
      boltWait := if s.boltEngaged n then none else some (s.now + 2000) }

/-- The locker takes a state that needs nothing more. -/
def Station.settleLocker (n : Nat) (state : LockerState) (s : Station) : Station :=
  s.changeLocker n fun l => l.settled state

/-- An opening is taken under the holding: the opening count rises, up to 255 (R36). -/
def Station.countOpening (n : Nat) (s : Station) : Station :=
  s.changeHolding n fun h => { h with openings := satInc h.openings }

/-- The locker returns to the state it was in when the ATTENDANT order was taken (R35). -/
def Station.returnLocker (n : Nat) (state : LockerState) (s : Station) : Station :=
  match state with
  | .locked => s.lockLocker n
  | .free => s.freeLocker n
  | _ => s.settleLocker n state

/-- R35: the locker is settled by its drive purpose, the door not having been taken. -/
def Station.settleUntaken (n : Nat) (s : Station) : Station :=
  match s.locker? n with
  | none => s
  | some l =>
    match l.purpose with
    | some .first => (s.endHoldingAt n).freeLocker n
    | some .retrieve => s.lockLocker n
    | some .attendant =>
      match l.returnState with
      | some st => s.returnLocker n st
      | none => s
    | none => s

/-- R36: the locker is settled by its drive purpose, the door having been taken. -/
def Station.settleTaken (n : Nat) (s : Station) : Station :=
  match s.locker? n with
  | none => s
  | some l =>
    match l.purpose, l.returnState with
    | some .attendant, some .orphan => s.freeLocker n
    | some .attendant, some .free => s.freeLocker n
    | some .attendant, some .outOfService => s.settleLocker n .outOfService
    | _, _ => (s.settleLocker n .opened).countOpening n

/-- The locker table writes a purpose and a return state, makes the drive request and sets the locker
UNBOLTING (R18); a bolt wait running on it is cancelled. -/
def Station.unboltLocker (n : Nat) (purpose : Purpose) (back : LockerState) (grantWait : Option Moment)
    (s : Station) : Station :=
  (s.changeLocker n fun l =>
    { l with
      state := .unbolting
      purpose := some purpose
      returnState := some back
      grantWait
      boltWait := none }).makeRequest (lockerOutput n) (.bolt purpose)

/-- R41: a forced door: the mark is set and the forced doors counter rises. -/
def Station.forceDoor (n : Nat) (s : Station) : Station :=
  let s := s.changeLocker n fun l => { l with forced := true }
  { s with lockers.forcedDoors := satInc s.lockers.forcedDoors }

/-! ### The reports of the drive arbiter (R17, R35, R40) -/

/-- R17: each PULLED report adds 1 to the wear count, up to 65 535. -/
def Station.countWear (n : Nat) (s : Station) : Station :=
  s.changeLocker n fun l => { l with wear := satInc l.wear }

/-- R34, R35: PULLED, REACHED: the grant wait is cancelled, the locker becomes UNBOLTED and the door wait
starts. A locker that is UNBOLTING no longer changes no state. -/
def Station.boltReached (n : Nat) (s : Station) : Station :=
  s.changeLocker n fun l =>
    if l.state = .unbolting then
      { l with
        state := .unbolted
        grantWait := none
        doorWait := some (s.now + 1000 * s.orders.setup.doorWait) }
    else l

/-- R40: PULLED, JAMMED: the locker becomes JAMMED with its purpose and its holding, and "SEE ATTENDANT" is
posted. -/
def Station.jamLocker (n : Nat) (s : Station) : Station :=
  (s.changeLocker n fun l => { l with state := .jammed, grantWait := none }).post .seeAttendant

/-- R154: the requests that `p` picks are aborted: a pull returns to WAITING at its place and its slot rests; a
hold leaves the queue, and its locker is settled as at the expiry of its door wait. DESIGN CHOICE: the lockers of
several holds are settled, and the FREE frames of FIRST lockers so offered, in the order of the request queue; R154
gives no order (notes/assumptions/32.md). DESIGN CHOICE: an aborted latch request whose target its cabin has left
waits with that target, since no report is made; R88 does not treat it (notes/assumptions/47.md). -/
def Station.abortDrives (p : DriveRequest → Bool) (s : Station) : Station :=
  let held := s.drive.queue.filter fun r => p r && decide (r.phase = .hold)
  let pulled (k : Nat) : Bool :=
    s.drive.queue.any fun r =>
      p r && (match r.phase with
        | .pull slot _ => decide (slot = k)
        | _ => false)
  let back (r : DriveRequest) : DriveRequest :=
    match r.phase with
    | .pull _ _ => if p r then { r with phase := .waiting } else r
    | _ => r
  let s :=
    { s with
      drive.slots :=
        updateWhere (fun k => pulled k.number) (fun k => { k with restUntil := some (s.now + 20) })
          s.drive.slots
      drive.queue := (s.drive.queue.filter fun r => !(p r && decide (r.phase = .hold))).map back }
  held.foldl (fun s r => s.settleUntaken (r.output + 1)) s

/-! ### The locker choice (R30) -/

/-- The locker of lowest wear count, and among those the one of lowest number. -/
def lowestWear (l : List Locker) : Option Locker :=
  l.foldl
    (fun best x =>
      match best with
      | none => some x
      | some b =>
        if x.wear.toNat < b.wear.toNat || (x.wear = b.wear && x.number < b.number) then some x else some b)
    none

/-- The choice among the FREE-closed lockers of one size. -/
def Station.chooseSize (s : Station) (size : Size) : Option Locker :=
  lowestWear (s.lockers.lockers.filter fun l => decide (l.size = size) && s.freeClosed l)

/-- R30: a STANDARD tap falls back to the LARGE lockers, and a LARGE tap takes no STANDARD one. -/
def Station.chooseLocker (s : Station) (size : Size) : Option Locker :=
  match size with
  | .standard => (s.chooseSize .standard).orElse fun _ => s.chooseSize .large
  | .large => s.chooseSize .large

end Sys2Proof.Machine
end

