-- ==== Sys2Proof/Machine/ClaimOps.lean ====
section
/-!
DEFINITION. The claim unit (chapter 3): the life of a claim, with the locker table's part in its creation, its
failure and its confirmation (R31 to R33).
-/

namespace Sys2Proof.Machine

open Sys2Proof

/-- R50: a claim ends and leaves the claims table. -/
def Station.removeClaim (p : PartyKey) (s : Station) : Station :=
  { s with claims.claims := s.claims.claims.filter fun c => decide (c.party ≠ p) }

/-- R33: the holding that a confirmed claim leaves. -/
def Claim.holding (c : Claim) (minute : BitVec 16) (unannounced : Bool) : Holding :=
  { locker := c.locker, party := c.party, serial := c.serial, start := minute, openings := 0,
    overstay := false, double := false, unannounced, recovered := false, forced := false }

/-- R33: the locker table takes a confirmed claim. With its door CLOSED the locker is driven under FIRST and
the grant wait starts (R34); with its door OPEN it becomes OPEN with opening count 1 and FORCED. -/
def Station.takeConfirmed (c : Claim) (unannounced : Bool) (s : Station) : Station :=
  let h := c.holding s.lockers.minute unannounced
  if s.doorClosed c.locker then
    { s with lockers.holdings := s.lockers.holdings ++ [h] }.unboltLocker c.locker .first .free
      (some (s.now + 1000 * s.orders.setup.doorWait))
  else
    { s with
      lockers.holdings := s.lockers.holdings ++ [{ h with openings := 1, forced := true }] }.settleLocker
      c.locker .opened

/-- R51, R62: the claim is confirmed, at its window end or locally. An insist claim deletes the doubtful entry
(R61, R80). -/
def Station.confirmClaim (c : Claim) (unannounced : Bool) (s : Station) : Station :=
  let s := s.removeClaim c.party
  let s := { s with claims.confirmed := satInc s.claims.confirmed }
  let s := if c.insist then s.deleteDoubtful c.party else s
  s.takeConfirmed c unannounced

/-- R32, R50: the claim fails: its locker becomes FREE and the message is posted. -/
def Station.failClaim (c : Claim) (t : Text) (s : Station) : Station :=
  ((s.removeClaim c.party).freeLocker c.locker).post t

/-- R50: a failed claim whose message is a redirect: the directory is given the band and the moment. -/
def Station.failRedirected (c : Claim) (bank locker : Nat) (s : Station) : Station :=
  (s.failClaim c (.goToBank bank locker)).recordRedirect c.serial s.now

def Station.countFailed (s : Station) : Station :=
  { s with claims.failed := satInc s.claims.failed }

def Station.countYielded (s : Station) : Station :=
  { s with claims.yielded := satInc s.claims.yielded }

/-- R52, R55, R58: the claim unit withdraws the claim's own CLAIM frame. -/
def Station.withdrawClaim (c : Claim) (s : Station) : Station :=
  match c.frame with
  | some id => s.withdrawFrame id
  | none => s

/-- A frame of the claim unit or the locker table that is made only while the link is UP (R42, R56, R57). -/
def Station.offerIfUp (kind : Kind) (content : List Byte) (owner : Owner) (s : Station) : Station :=
  if s.link.up then s.offer kind content owner .plain else s

/-- R31, R48: a claim is created for the tap at the chosen locker. "LOCKER ll" and the cursor show the locker.
With the link UP its CLAIM frame is queued; with the link DOWN it is confirmed at once (R62). -/
def Station.createClaim (tap : Tap) (locker : Nat) (insist : Bool) (s : Station) : Station :=
  let up := s.link.up
  let c : Claim :=
    { party := tap.party, serial := tap.serial, locker, state := .queued, queueTime := s.now, insist,
      joined := 0, frame := if up then some s.link.nextFrame else none }
  let s := { s with claims.claims := s.claims.claims ++ [c] }
  let s := s.changeLocker locker fun l => { l with state := .claiming }
  let s := (s.post (.locker locker)).placeCursor locker
  if up then s.offer .claim (claimContent tap.party locker tap.serial tap.size) .claimUnit .claim
  else s.confirmClaim c true

end Sys2Proof.Machine
end

