-- ==== Sys2Proof/Machine/TallyOps.lean ====
section
/-!
DEFINITION. The tally unit and the arithmetic of guidance (chapter 6): the dwell average, the wait estimate,
TALLY frames, cabin suggestions and locker guidance.
-/

namespace Sys2Proof.Machine

open Sys2Proof

/-! ### The dwell average and the wait estimate (R116, R118, R120) -/

/-- R116: D moves one eighth of the way toward the measured dwell, truncated toward zero. -/
def dwellUpdate (d t : Nat) : Nat := if d ≤ t then d + (t - d) / 8 else d - (d - t) / 8

/-- R118: the wait estimate for a joiner with k entries ahead, in seconds. -/
def Station.waitEstimate (s : Station) (k : Nat) : Nat :=
  let c := s.cabinsInService
  if 0 < s.freeCabins then 0
  else if c = 0 then 65535
  else ((k + 1) * s.cabins.dwell + (c - 1)) / c

/-- R120: a wait in whole minutes, rounded up, at most 99. -/
def waitMinutes (w : Nat) : Nat := min 99 ((w + 59) / 60)

/-! ### TALLY frames (R109 to R112) -/

/-- R111: some holding or some cabin carries OVERSTAY. -/
def Station.anyOverstay (s : Station) : Bool :=
  s.lockers.holdings.any (·.overstay) || s.cabins.cabins.any (·.overstay)

/-- R110, R111, R143: the content of a TALLY built at this moment. -/
def Station.tallyContent (s : Station) : List Byte :=
  [s.restart.zone.setWidth 8, oneByte (s.freeCount .standard), oneByte (s.freeCount .large),
    oneByte s.cabins.queue.length] ++
  twoBytes (BitVec.ofNat 16 (s.waitEstimate s.cabins.queue.length)) ++
  [modeCode s.restart.mode, tallyFlags s.restart.holdDown s.claims.walk.isSome s.anyOverstay]

/-- R109: a TALLY is built and queued, if the link is UP. -/
def Station.queueTally (s : Station) : Station :=
  if s.link.up then s.offer .tally s.tallyContent .tallyUnit .plain else s

/-! ### Neighbours (R113 to R115) -/

/-- R113: an entry is stale when it has not been heard, and when its age has reached 7 s. -/
def Neighbour.stale (n : Neighbour) : Bool := !n.heard || n.aged

/-- The distance between two zones. -/
def zoneDistance (a b : Nat) : Nat := (a - b) + (b - a)

/-- The best of a list by a strict order; of equals, the earlier, so the lower station number. -/
def bestOf (better : Neighbour → Neighbour → Bool) (l : List Neighbour) : Option Neighbour :=
  l.foldl
    (fun best x =>
      match best with
      | none => some x
      | some b => if better x b then some x else some b)
    none

/-! ### Cabin suggestions (R121, R122) -/

/-- R121: what makes an entry a candidate for a suggestion. -/
def Neighbour.cabinCandidate (n : Neighbour) : Bool :=
  !n.stale && decide (n.mode = .run) && decide (n.wait ≠ 65535) && decide (n.queue < 16)

/-- R121: the cost of a candidate. -/
def Station.cabinCost (s : Station) (n : Neighbour) : Nat :=
  n.wait + s.orders.setup.walkPenalty * zoneDistance n.zone s.restart.zone.toNat

/-- R121: the candidate of lowest cost, and among those of lowest station number. -/
def Station.bestCabin (s : Station) : Option Neighbour :=
  bestOf
    (fun x b =>
      s.cabinCost x < s.cabinCost b || (s.cabinCost x == s.cabinCost b && x.station < b.station))
    (s.tally.neighbours.filter (·.cabinCandidate))

/-- R122: the best candidate is suggested when its cost plus the margin is less than the local wait. -/
def Station.suggestion (s : Station) (localWait : Nat) : Option Text :=
  match s.bestCabin with
  | none => none
  | some n =>
    if s.cabinCost n + s.orders.setup.margin < localWait then some (.cabinsFaster n.station) else none

/-! ### Locker guidance (R123, R124) -/

/-- The free count of a size that an entry reports. -/
def Neighbour.freeOf (n : Neighbour) : Size → Nat
  | .standard => n.freeStandard
  | .large => n.freeLarge

/-- R123: what makes an entry a candidate in the pass of a size. -/
def Neighbour.lockerCandidate (size : Size) (n : Neighbour) : Bool :=
  !n.stale && decide (n.mode = .run) && !n.driveHold && decide (1 ≤ n.freeOf size)

/-- R124: the candidate of smallest zone distance, then of larger free count, then of lowest number. -/
def Station.lockerPass (s : Station) (size : Size) : Option Neighbour :=
  let away (n : Neighbour) : Nat := zoneDistance n.zone s.restart.zone.toNat
  bestOf
    (fun x b =>
      away x < away b ||
        (away x == away b &&
          (b.freeOf size < x.freeOf size ||
            (x.freeOf size == b.freeOf size && x.station < b.station))))
    (s.tally.neighbours.filter (Neighbour.lockerCandidate size))

/-- R123: the passes for a tap's size. -/
def Station.guidedBank (s : Station) (size : Size) : Option Neighbour :=
  match size with
  | .standard => (s.lockerPass .standard).orElse fun _ => s.lockerPass .large
  | .large => s.lockerPass .large

/-- R124: the message that answers a tap for which no locker is found. -/
def Station.guidance (s : Station) (size : Size) : Text :=
  match s.guidedBank size with
  | some n => .noLockerHere n.station
  | none => .allLockersFull

end Sys2Proof.Machine
end

