-- ==== Sys2Proof/Machine/CabinOps.lean ====
section
/-!
DEFINITION. The cabin unit (chapter 5): entering the cabin states, the serving step, presence, and the reports
of the drive arbiter on a latch.
-/

namespace Sys2Proof.Machine

open Sys2Proof

/-! ### The serving step (R98) -/

/-- The oldest WAITING entry of the queue. -/
def Station.oldestWaiting (s : Station) : Option QueueEntry :=
  s.cabins.queue.find? fun e => decide (e.state = .waiting)

/-- The lowest-numbered FREE cabin: the records stand in number order (Station.Bounded). -/
def Station.lowestFree (s : Station) : Option Nat :=
  (s.cabins.cabins.find? fun c => decide (c.state = .free)).map (·.number)

/-- A cabin as it enters a state, without occupancy, reservation or timer. -/
def Cabin.cleared (c : Cabin) (state : CabinState) : Cabin :=
  { c with
    state
    occupant := none
    clearMoment := none
    reservedFor := none
    overstay := false
    graceAt := none
    admitAt := none
    vacateAt := none
    seconds := 0
    unsettled := false }

/-- R98: the cabin is reserved for the entry: the grace end and the grace timer, the latch target LATCHED, and
"CABIN c READY". -/
def Station.reserveCabin (n : Nat) (e : QueueEntry) (s : Station) : Station :=
  let grace := s.orders.setup.grace
  let s :=
    s.changeEntry e.serial fun q =>
      { q with state := .reserved n, graceEnd := some (s.cabins.clock + BitVec.ofNat 16 grace) }
  let s :=
    s.changeCabin n fun c =>
      { c.cleared .reserved with
        reservedFor := some e.serial
        graceAt := some (s.now + 1000 * grace) }
  (s.setLatchTarget n (some .latched)).post (.cabinReady n)

/-- The cabin becomes FREE, with latch target UNLATCHED. -/
def Station.freeCabin (n : Nat) (s : Station) : Station :=
  (s.changeCabin n fun c => c.cleared .free).setLatchTarget n (some .unlatched)

/-- R98: a cabin is released: RESERVED for the oldest WAITING entry, or FREE. -/
def Station.releaseCabin (n : Nat) (s : Station) : Station :=
  match s.oldestWaiting with
  | some e => s.reserveCabin n e
  | none => s.freeCabin n

/-- R98: an entry returns to WAITING in its place, and the lowest-numbered FREE cabin, if there is one, is
reserved for the oldest WAITING entry. -/
def Station.returnEntry (serial : BitVec 24) (s : Station) : Station :=
  let s := s.changeEntry serial fun q => { q with state := .waiting, graceEnd := none }
  match s.lowestFree, s.oldestWaiting with
  | some n, some e => s.reserveCabin n e
  | _, _ => s

/-! ### Occupancy (R92, R93, R95) -/

/-- The cabin becomes OCCUPIED from this moment, with latch target none. -/
def Station.occupyCabin (n : Nat) (band : Option (BitVec 24)) (s : Station) : Station :=
  (s.changeCabin n fun c =>
    { c.cleared .occupied with occupant := band, occupancy := s.cabins.clock }).setLatchTarget n none

/-- R92: a walk-in: the cabin is OCCUPIED anonymously, and a reservation goes back to the queue. -/
def Station.walkIn (n : Nat) (s : Station) : Station :=
  match (s.cabin? n).bind (·.reservedFor) with
  | none => s.occupyCabin n none
  | some serial => (s.occupyCabin n none).returnEntry serial

/-- R93: an admission: the entry leaves the queue and its band is the occupant. -/
def Station.admitCabin (n : Nat) (s : Station) : Station :=
  match (s.cabin? n).bind (·.reservedFor) with
  | none => s.occupyCabin n none
  | some serial => (s.occupyCabin n (some serial)).removeEntry serial

/-- R86: the elapsed time of an occupancy, modulo 65 536. -/
def Station.elapsed (s : Station) (c : Cabin) : Nat := (s.cabins.clock - c.occupancy).toNat

/-- R86: the measured dwell, from the occupancy start to the clear moment, clamped to 0 to 1 800. -/
def Station.measuredDwell (s : Station) (c : Cabin) : Nat :=
  min 1800 ((c.clearMoment.getD s.cabins.clock) - c.occupancy).toNat

/-- The reserved-for entry of a cabin leaves the queue. -/
def Station.dropReservation (n : Nat) (s : Station) : Station :=
  match (s.cabin? n).bind (·.reservedFor) with
  | none => s
  | some serial => s.removeEntry serial

/-! ### The reports of the drive arbiter (R88, R90) -/

/-- R90: a jammed latch: the cabin becomes FAULT with latch target none, and a reservation goes back to the
queue. -/
def Station.faultCabin (n : Nat) (s : Station) : Station :=
  let reserved := (s.cabin? n).bind (·.reservedFor)
  let s :=
    s.changeCabin n fun c => { c.cleared .fault with latchTarget := none, latchMoving := false }
  match reserved with
  | none => s
  | some serial => s.returnEntry serial

/-- R88: NOT REACHED: a request whose target is no longer the cabin's is withdrawn from its jam rest. -/
def Station.latchMissed (n : Nat) (target : Latch) (s : Station) : Station :=
  match s.cabin? n with
  | none => s
  | some c =>
    if c.latchTarget = some target then s
    else
      ((s.withdrawDrive (cabinOutput n)).changeCabin n fun c => { c with latchMoving := false }).compareLatch n

end Sys2Proof.Machine
end

