-- ==== Sys2Proof/Machine/PanelEvents.lean ====
section
/-!
DEFINITION. The guidance panel (chapter 10): the attributes of the cells, the colour of a cell in a frame, the
message line, and the meanings of CURSOR_TIMER_EXPIRY, MESSAGE_HOLD_EXPIRY, PAIR_TURN, SCROLL_STEP and
PANEL_FRAME.
-/

namespace Sys2Proof.Machine

open Sys2Proof

/-! ### Cell attributes (R168 to R170) -/

/-- The blink modes (R168). -/
inductive Blink where
  | steady
  | fast
  | slow
  | dark
  deriving DecidableEq, Repr

/-- A cell's attribute: a colour and a blink mode (R168). -/
structure Attribute where
  colour : Colour
  blink  : Blink
  deriving DecidableEq, Repr

/-- A cell that is lit in no frame. -/
def Attribute.dark : Attribute := { colour := .dark, blink := .dark }

/-- R168: the frames in which a blink mode is lit. -/
def Blink.lit (b : Blink) (frame : BitVec 6) : Bool :=
  match b with
  | .steady => true
  | .fast => frame.toNat % 32 < 16
  | .slow => frame.toNat < 32
  | .dark => false

/-- R168: the colour an attribute shows in a frame. -/
def Attribute.shown (a : Attribute) (frame : BitVec 6) : Colour :=
  if a.blink.lit frame then a.colour else .dark

/-- The locker's holding carries OVERSTAY. -/
def Station.overstays (s : Station) (n : Nat) : Bool :=
  match s.holdingAt n with
  | some h => h.overstay
  | none => false

/-- R169: the attribute of a locker's cell, the first row that applies. -/
def Station.lockerAttribute (s : Station) (l : Locker) : Attribute :=
  if l.state = .outOfService then .dark
  else if l.forced then ⟨.amber, .fast⟩
  else
    match l.state with
    | .free => ⟨.green, .steady⟩
    | .claiming => ⟨.amber, .fast⟩
    | .unbolting => ⟨.green, .fast⟩
    | .unbolted => ⟨.green, .fast⟩
    | .opened => ⟨.green, .slow⟩
    | .locked => if s.overstays l.number then ⟨.red, .slow⟩ else ⟨.red, .steady⟩
    | .unsecured => ⟨.amber, .slow⟩
    | .jammed => ⟨.amber, .steady⟩
    | .orphan => ⟨.red, .fast⟩
    | .outOfService => .dark

/-- R170: the attribute of a cabin's cell. -/
def Cabin.attribute (c : Cabin) : Attribute :=
  match c.state with
  | .free => ⟨.green, .steady⟩
  | .reserved => ⟨.green, .fast⟩
  | .admitting => ⟨.green, .fast⟩
  | .occupied => if c.overstay then ⟨.red, .slow⟩ else ⟨.red, .steady⟩
  | .fault => ⟨.amber, .steady⟩
  | .outOfService => .dark

/-- R167, R169, R170: the attribute of cell k: locker k up to 60, cabin k - 60 from 61 to 68; dark where there is no
record, in cells 69 to 72, and in STRAP_FAULT (R178). DESIGN CHOICE: between the end of a warm start and the end of the
filter load, whose owners have not settled their records yet, the states are those from before the start
(notes/assumptions/53.md). -/
def Station.cellAttribute (s : Station) (k : Nat) : Attribute :=
  if s.restart.mode = .strapFault then .dark
  else if k ≤ 60 then
    match s.locker? k with
    | some l => s.lockerAttribute l
    | none => .dark
  else if k ≤ 68 then
    match s.cabin? (k - 60) with
    | some c => c.attribute
    | none => .dark
  else .dark

/-- R167, R172: the colour of cell k in a frame: amber under the cursor in the fast frames. -/
def Station.cellColour (s : Station) (frame : BitVec 6) (k : Nat) : Colour :=
  if s.panel.cursor = some k ∧ Blink.fast.lit frame = true then .amber else (s.cellAttribute k).shown frame

/-- R167: the row of cell k, 1 to 6. -/
def cellRow (k : Nat) : Nat := (k + 11) / 12

/-- R167: the column of cell k, 1 to 12. -/
def cellColumn (k : Nat) : Nat := k - 12 * (cellRow k - 1)

/-- R167: a cell of this colour has its LED of a colour line lit. -/
def Colour.lights (c : Colour) (green : Bool) : Bool :=
  match c with
  | .dark => false
  | .green => green
  | .red => !green
  | .amber => true

/-- R167: what the outputs of the cell map carry during one strobe: the six row outputs, the green and the red colour
line, and the twelve column outputs, first row and first column first. -/
structure Strobe where
  rows      : List Bool
  greenLine : Bool
  redLine   : Bool
  columns   : List Bool
  deriving DecidableEq, Repr

/-- R167: the column outputs in a strobe of a row and a colour line: for each of the twelve cells of that row, whether
its LED of that colour is lit in the running frame. -/
def Panel.columns (p : Panel) (row : Nat) (green : Bool) : List Bool :=
  ((p.cells.drop (12 * (row - 1))).take 12).map (·.lights green)

/-- R167: the strobe of a row with one colour line active. -/
def Panel.strobe (p : Panel) (row : Nat) (green : Bool) : Strobe :=
  { rows := (List.range 6).map fun i => decide (i + 1 = row)
    greenLine := green
    redLine := !green
    columns := p.columns row green }

/-- R167: the twelve strobes of the running frame, in their order: rows 1 to 6 in turn, each with either colour line.
DESIGN CHOICE: of a row's two strobes the green one comes first; R167 names green before red and gives no order
(notes/assumptions/54.md). -/
def Panel.strobes (p : Panel) : List Strobe :=
  (List.range 6).flatMap fun i => [p.strobe (i + 1) true, p.strobe (i + 1) false]

/-! ### The message line (R173 to R178) -/

/-- R176: the idle message of the station mode. -/
def Station.idleText (s : Station) : Text :=
  match s.restart.mode with
  | .strapFault => .strapFault
  | .unset => .notReady
  | .recovering => .notReady
  | .run => .idleCounts (s.freeCount .standard) (s.freeCount .large) s.freeCabins

/-- The text that has its turn (R174), or the idle message. -/
def Station.shownText (s : Station) : Text :=
  match s.panel.message with
  | none => s.idleText
  | some m =>
    match m.second with
    | some t => if s.panel.secondTurn then t else m.first
    | none => m.first

/-- R175: the 24 characters that the line shows. -/
def Station.shownLine (s : Station) : List Char := Text.window s.shownText s.panel.scroll

/-- The line is composed again. -/
def Station.composeLine (s : Station) : Station := { s with panel.line := s.shownLine }

/-! ### The panel's timers -/

/-- R172: the cursor timer expires. -/
def Station.cursorEnd (s : Station) : Station :=
  match s.panel.cursorTimer with
  | none => s
  | some t => (s.reach t).removeCursor

def execCursorTimerExpiry (s : State) : Result := perform .cursorTimerExpiry (whenLive Station.cursorEnd) s

/-- R173: the hold ends: the buffer is emptied and the idle message is shown. -/
def Station.holdEnd (s : Station) : Station :=
  match s.panel.holdEnd with
  | none => s
  | some t =>
    let s := s.reach t
    { s with
      panel.message := none
      panel.holdEnd := none
      panel.secondTurn := false
      panel.turnEnd := none
      panel.scroll := 0 }.composeLine

def execMessageHoldExpiry (s : State) : Result := perform .messageHoldExpiry (whenLive Station.holdEnd) s

/-- R174: the end of the turn that begins at `t`; none for the last turn, which the end of the hold ends. -/
def Panel.nextTurn (p : Panel) (t : Moment) : Option Moment :=
  p.holdEnd.bind fun h => if t + 2000 < h then some (t + 2000) else none

/-- R174: a change of turn: the pair phase changes, and the other text starts at its first character. -/
def Station.turnPair (s : Station) : Station :=
  match s.panel.turnEnd with
  | none => s
  | some t =>
    let s := s.reach t
    { s with
      panel.secondTurn := !s.panel.secondTurn
      panel.scroll := 0
      panel.stepCount := 0
      panel.turnEnd := s.panel.nextTurn t }.composeLine

def execPairTurn (s : State) : Result := perform .pairTurn (whenLive Station.turnPair) s

/-- R175: a step: the scroll step count returns to 0, and the scroll position moves on by one place of the circular
sequence; for a text that does not scroll it stays 0. -/
def Station.scrollOn (s : Station) : Station :=
  let s := { s with panel.stepCount := 0 }
  let t := s.shownText
  if Text.scrolls t then
    { s with panel.scroll := (s.panel.scroll + 1) % (Text.length t + 4) }.composeLine
  else s

def execScrollStep (s : State) : Result := perform .scrollStep (whenLive Station.scrollOn) s

/-! ### A frame (R167, R168, R175) -/

/-- The millisecond at or after a moment given in eighths. -/
def ofEighths (t : Nat) : Moment := (t + 7) / 8

/-- R168: the frame counter advances, and the cells take the colours of the new frame (R167). -/
def Station.advanceFrame (s : Station) : Station :=
  let s := s.reach (ofEighths s.panel.frameDue)
  let frame := s.panel.frame + 1
  { s with
    panel.frame := frame
    panel.frameDue := s.panel.frameDue + 125
    panel.cells := (List.range 72).map fun i => s.cellColour frame (i + 1) }

/-- R175, R176: the frame before has ended: the idle message appears as it now is, the scroll step count rises,
and at 12 frames the scroll takes its step at once. -/
def Station.countFrame (s : Station) : Station :=
  let s := s.composeLine
  if 11 ≤ s.panel.stepCount then s.scrollOn
  else { s with panel.stepCount := s.panel.stepCount + 1 }

/-- A frame starts: in every station mode; in STRAP_FAULT the line does not change (R178). -/
def Station.panelFrame (s : Station) : Station :=
  if s.restart.phase = .running then
    let s := s.advanceFrame
    if s.restart.mode = .strapFault then s else s.countFrame
  else s

def execPanelFrame (s : State) : Result := perform .panelFrame Station.panelFrame s

end Sys2Proof.Machine
end

