-- ==== Sys2Proof/Machine/StartOps.lean ====
section
/-!
DEFINITION. Starts and recovery (chapter 12, and each chapter's section on starts): the beginning of a warm
start, a cold start, what completes a warm start, entering RECOVERING, the settlements, and a rebuild from a
RECOUNT.
-/

namespace Sys2Proof.Machine

open Sys2Proof

/-! ### Retention (R196) -/

/-- Every counter of R186's table, as it stands. -/
def Station.counters (s : Station) : Counters :=
  { accepted := s.taps.accepted
    refused := s.taps.refused
    sinceRead := s.taps.sinceRead
    confirmed := s.claims.confirmed
    yielded := s.claims.yielded
    failed := s.claims.failed
    doubles := s.lockers.doubles
    jams := s.drive.jams
    forcedDoors := s.lockers.forcedDoors
    framesLost := s.link.framesLost
    spoilsDriven := s.link.spoilsDriven
    missed := s.cabins.missed }

/-- What a warm start keeps of a locker: all but its timers (R46). -/
def Locker.kept (l : Locker) : Locker := { l with grantWait := none, doorWait := none, boltWait := none }

/-- What a warm start keeps of a cabin: all but its timers and, since the queue is lost, its reservation (R108). -/
def Cabin.kept (c : Cabin) : Cabin :=
  { c with reservedFor := none, graceAt := none, admitAt := none, vacateAt := none }

/-- The retained state (12.3). -/
def Station.retained (s : Station) : Retained :=
  { lockers := s.lockers.lockers.map Locker.kept
    holdings := s.lockers.holdings
    minute := s.lockers.minute
    clock := s.cabins.clock
    cabins := s.cabins.cabins.map Cabin.kept
    dwell := s.cabins.dwell
    claims := s.claims.claims
    latches := s.drive.latches
    setup := s.orders.setup
    lockersLockClosed := s.orders.lockersLockClosed
    cabinsLockClosed := s.orders.cabinsLockClosed
    snapshot := s.orders.snapshot
    counters := s.counters
    recallDelivered := s.restart.recallDelivered
    cause := s.restart.cause
    warmStarts := s.restart.warmStarts }

/-- R196: the retention check computed afresh, over the retained state that is there. -/
def Station.retentionCheck (s : Station) : BitVec 16 := Config.retentionCheck s.retained

/-- R196: the retention check kept. While the blocks run it is brought up to date with every change of the retained
state, so it is the check of that state; a start keeps it as it finds it. -/
def Station.keptCheck (s : Station) : BitVec 16 :=
  if s.restart.phase = .running then s.retentionCheck else s.restart.check

/-! ### A warm start begins (R195) -/

/-- The entry of a neighbour after a start (R113). -/
def neighboursOf (station : Nat) : List Neighbour :=
  ((List.range 28).filter fun n => 1 ≤ n && decide (n ≠ station)).map Neighbour.unheard

/-- What a start leaves of the panel: the frame counter at 0, no cursor, no message and no hold (R178). -/
def Panel.restarted (p : Panel) (cells : List Colour) (line : List Char) (now : Moment) : Panel :=
  { p with
    cursor := none
    cursorTimer := none
    message := none
    holdEnd := none
    secondTurn := false
    turnEnd := none
    scroll := 0
    stepCount := 0
    frame := 0
    frameDue := now * 8 + 125
    cells
    line }

/-- Work in flight stops where it stands: every output turns off, and each block loses what its chapter says a
warm start loses (R2, R5, R46, R64, R84, R108, R113, R142, R157, R165, R178, R191). -/
def Station.loseVolatile (s : Station) : Station :=
  { s with
    deliveries := []
    taps.inputs := Dispatcher.resetInputs
    lockers.lockers := s.lockers.lockers.map Locker.kept
    claims.announcements := []
    claims.walk := none
    directory := { cache := [], redirects := [], recounts := 0 }
    tally.neighbours := s.tally.neighbours.map fun n => Neighbour.unheard n.station
    tally.timer := none
    cabins.queue := []
    cabins.cabins := s.cabins.cabins.map Cabin.kept
    drive.queue := []
    drive.late := []
    drive.slots := DriveArbiter.resetSlots
    scan.history := []
    scan.level := Levels.none
    scan.loaded := false
    scan.pads := Scanner.resetPads
    link.queue := []
    link.up := true
    link.losses := 0
    link.dominantWatch := 0
    link.spoilSlot := .recessive
    link.recessiveSeen := false
    link.reports := []
    orders.restartWait := none
    panel := s.panel.restarted (List.replicate 72 .dark) (List.replicate 24 ' ') s.now
    restart.windowEnd := none
    restart.settleDue := false
    restart.pausedAt := some (s.restart.pausedAt.getD s.now) }

/-- R195, R196: a warm start begins at once with its cause, and the retention check stays as it is kept; under a
second cause the start begins again. -/
def Station.beginWarm (cause : StartCause) (s : Station) : Station :=
  let check := s.keptCheck
  let s := s.loseVolatile
  { s with restart.phase := .warm cause, restart.check := check }

/-- R195: the cause of the warm start has ended. -/
def Station.causeEnded (s : Station) (cause : StartCause) : Bool :=
  match cause with
  | .supplyLow => decide (s.restart.logicSupply = .normal)
  | .resetLine => !s.restart.resetLineLow && decide (s.restart.logicSupply = .normal)
  | .ordered => true
  | .powerOn => false
  | .retentionBad => false

/-- R195: a warm start whose cause has ended goes on to the retention check. -/
def Station.endCause (s : Station) : Station :=
  match s.restart.phase with
  | .warm cause =>
    if s.causeEnded cause then s.deliver (.warmStartEnd s.restart.strapPins s.restart.zonePins 0) else s
  | .running => s
  | .off => s

/-! ### A cold start (R193) -/

/-- A station number of 1 to 27 is valid (R192). -/
def validStrap (strap : BitVec 5) : Bool := 1 ≤ strap.toNat && strap.toNat ≤ 27

/-- The release timer of hold-down at a cold start: it runs if the supply already stands above 21.5 V (R194). DESIGN
CHOICE: its 100 ms begin at the moment of the cold start, and the time the supply stood there before does not count
(notes/assumptions/52.md). -/
def Station.coldRelease (s : Station) : Option Moment :=
  if s.restart.driveSupply = .high then some (s.now + 100) else none

/-- A cold start: all state is lost, the straps are read, and the station enters UNSET, or STRAP_FAULT on an
invalid strap. Only the pins and the block's time go on. DESIGN CHOICE: a cold start that ends in STRAP_FAULT leaves
every fault latch CLEAR, since R157 does not track them there (notes/assumptions/51.md). -/
def Station.coldStart (cause : StartCause) (strap : BitVec 5) (zone : BitVec 3) (s : Station) : Station :=
  let ok := validStrap strap
  let panel := Station.reset.panel
  let t : Station :=
    { Station.reset with
      now := s.now
      lockers := { Station.reset.lockers with minuteDue := s.now + 60000 }
      cabins := { Station.reset.cabins with clockDue := s.now + 1000 }
      tally :=
        { neighbours := if ok then neighboursOf strap.toNat else []
          timer := if ok then some (s.now + 2000) else none }
      drive :=
        { Station.reset.drive with
          latches := if ok then s.drive.inputs else 0
          inputs := s.drive.inputs }
      scan := { Station.reset.scan with switches := s.scan.switches, sampleDue := s.now + 8 }
      link := { Station.reset.link with queue := [], nextFrame := 0 }
      panel :=
        panel.restarted panel.cells
          (Text.window (if ok then .notReady else .strapFault) 0) s.now
      restart :=
        { Station.reset.restart with
          mode := if ok then .unset else .strapFault
          station := strap.toNat
          zone
          strapPins := strap
          zonePins := zone
          releaseAt := s.coldRelease
          driveSupply := s.restart.driveSupply
          logicSupply := s.restart.logicSupply
          resetLineLow := s.restart.resetLineLow
          cause
          pausedAt := if ok then none else some s.now } }
  if ok then t.queueTally else t

/-! ### A warm start completes (R196) -/

/-- R22, R86, R195: the minute counter and the cabin clock resume where they were paused. -/
def Station.resumeClocks (s : Station) : Station :=
  match s.restart.pausedAt with
  | none => s
  | some since =>
    { s with
      lockers.minuteDue := s.lockers.minuteDue + (s.now - since)
      cabins.clockDue := s.cabins.clockDue + (s.now - since)
      restart.pausedAt := none }

/-- R1, R192: the station leaves STRAP_FAULT, and taps refused takes the partial records discarded there
(notes/assumptions/15.md). -/
def Station.countHeld (s : Station) : Station :=
  { s with taps.refused := satAdd s.taps.refused s.taps.heldRefused, taps.heldRefused := 0 }

/-- R67: each claim is voided: a SENT claim with a YIELD if the link is UP, a QUEUED claim dropped. -/
def Station.voidClaim (s : Station) (c : Claim) : Station :=
  match c.state with
  | .queued => s.countFailed
  | .sent _ => s.countYielded.offerIfUp .yield (partyLockerContent c.party c.locker) .claimUnit

/-- R67: the claims table is emptied, and a walk starts if the link is UP. DESIGN CHOICE: the claims are voided, and
their YIELD frames offered, in the order of the claims table; R67 gives no order (notes/assumptions/38.md). -/
def Station.voidClaims (s : Station) : Station :=
  let s := s.claims.claims.foldl Station.voidClaim s
  let s := { s with claims.claims := [] }
  if s.link.up then s.startWalk else s

/-- R196, R197: restart control queues RECALL. -/
def Station.queueRecall (s : Station) : Station := s.offer .recall [] .restartControl .plain

/-- The mode after a warm start with a valid strap: RUN if both setup locks are closed, UNSET otherwise. -/
def Station.resumedMode (s : Station) : Mode :=
  if s.orders.lockersLockClosed && s.orders.cabinsLockClosed then .run else .unset

/-- R196: the warm start completes: the reset-cause record, the straps and the mode, then the blocks resume in
RUN or UNSET, with the idle message of that mode (R178). The settlements of R46 and R108 wait for the filter load
(R165). In STRAP_FAULT no station number is read, so there is no neighbour table (R113). DESIGN CHOICE: the first panel
frame starts one whole frame after the end, and none runs during the start; R178 is silent
(notes/assumptions/50.md). -/
def Station.completeWarm (cause : StartCause) (strap : BitVec 5) (zone : BitVec 3) (s : Station) : Station :=
  let recovering := decide (s.restart.mode = .recovering)
  let s :=
    { s with
      restart.phase := .running
      restart.station := strap.toNat
      restart.zone := zone
      restart.cause := cause
      restart.warmStarts := satInc s.restart.warmStarts
      panel := { s.panel with frameDue := s.now * 8 + 125 } }
  if validStrap strap then
    let s := s.resumeClocks.countHeld
    let s :=
      { s with
        restart.mode := s.resumedMode
        restart.settleDue := true
        drive.latches := s.drive.latches ||| s.drive.inputs
        scan.sampleDue := s.now + s.orders.setup.filterInterval
        cabins.cabins := s.cabins.cabins.map fun c : Cabin => { c with unsettled := true }
        tally.neighbours := neighboursOf strap.toNat
        tally.timer := some (s.now + 2000) }
    let s := if s.restart.mode = .run then s.voidClaims else s
    let s := if recovering && !s.restart.recallDelivered then s.queueRecall else s
    s.composeLine.queueTally
  else
    { s with
      restart.mode := .strapFault
      tally.neighbours := []
      panel := { s.panel with line := Text.window .strapFault 0 } }

/-! ### Entering RECOVERING (R193) -/

/-- R45: the state of a locker as it is classified. -/
def Station.classified (s : Station) (n : Nat) : LockerState :=
  if s.doorClosed n && s.boltEngaged n then .orphan else .free

/-- R16, R45: the record of locker n. Lockers N - L + 1 to N are LARGE. Before the filters are loaded its levels are
free (notes/assumptions/43.md). -/
def Station.newLocker (s : Station) (n : Nat) : Locker :=
  { number := n
    size := if s.orders.setup.lockerCount < n + s.orders.setup.largeCount then .large else .standard
    state := s.classified n
    wear := 0
    purpose := none
    returnState := none
    forced := false
    grantWait := none
    doorWait := none
    boltWait := none }

/-- R85: the record of cabin c: OCCUPIED with no band where the pad is CONFIRMED, FREE elsewhere. DESIGN CHOICE: a
cabin created FREE has occupancy start 0; R85 gives the field a value only on entering OCCUPIED
(notes/assumptions/39.md). Before the filters are loaded its latch level is free and its pad CLEAR
(notes/assumptions/43.md). -/
def Station.newCabin (s : Station) (c : Nat) : Cabin :=
  let here := decide (s.presence c = .confirmed)
  { number := c
    state := if here then .occupied else .free
    latchPosition := s.latchLevel c
    latchTarget := if here then none else some .unlatched
    presence := s.presence c
    occupant := none
    occupancy := if here then s.cabins.clock else 0
    clearMoment := none
    reservedFor := none
    overstay := false
    latchMoving := false
    graceAt := none
    admitAt := none
    vacateAt := none
    seconds := 0
    unsettled := false }

/-- R87: the comparison is made for each of the first `count` cabins. DESIGN CHOICE: their requests are made in the
order of the cabin numbers; R157 gives no order among cabins (notes/assumptions/40.md). -/
def Station.compareLatches (count : Nat) (s : Station) : Station :=
  (List.range count).foldl (fun s i => s.compareLatch (i + 1)) s

/-- R193, R197: lockers are classified, cabin records are created, RECALL is queued with its mark clear, and
the 3 s recovery window starts. -/
def Station.enterRecovering (s : Station) : Station :=
  let s :=
    { s with
      restart.mode := .recovering
      restart.recallDelivered := false
      restart.windowEnd := some (s.now + 3000)
      lockers.lockers := (List.range s.orders.setup.lockerCount).map fun i => s.newLocker (i + 1)
      cabins.cabins := (List.range s.orders.setup.cabinCount).map fun i => s.newCabin (i + 1) }
  (s.compareLatches s.orders.setup.cabinCount).queueRecall

/-- R183, R184, R193: restart control is told that a setup order has been accepted. DESIGN CHOICE: the RECALL of the
entry to RECOVERING is offered to the transmit queue before the REPORT of the order that brings it; R182 and R197 queue
both at one moment and give no order (notes/assumptions/45.md). -/
def Station.setupAccepted (s : Station) : Station :=
  if s.orders.lockersLockClosed && s.orders.cabinsLockClosed then s.enterRecovering else s

/-! ### The settlement of the lockers after a warm start (R46) -/

/-- R46: a locker settled with a holding: OPEN with the door OPEN, LOCKED with the door CLOSED. -/
def Station.settleHeld (n : Nat) (s : Station) : Station :=
  if s.doorClosed n then s.lockLocker n else s.settleLocker n .opened

/-- A tap or an order between the end of the warm start and the filter load has given the locker a claim or a
drive: its state is no longer the one before the warm start (notes/assumptions/12.md). -/
def Station.takenSince (s : Station) (n : Nat) : Bool :=
  (s.claimAt n).isSome || (s.request? (lockerOutput n)).isSome

/-- R46: each locker is settled from the state before the warm start and its loaded levels. -/
def Station.settleWarm (s : Station) (l : Locker) : Station :=
  if s.takenSince l.number then s else
  match l.state with
  | .claiming => s.freeLocker l.number
  | .unbolting => settleDrive s l
  | .unbolted => settleDrive s l
  | .opened => s.settleHeld l.number
  | .locked => s.settleHeld l.number
  | .unsecured => s.settleHeld l.number
  | .free => s.freeLocker l.number
  | .orphan => s.settleLocker l.number .orphan
  | .outOfService => s.settleLocker l.number .outOfService
  | .jammed => s
where
  /-- UNBOLTING or UNBOLTED: by the door with a holding, and to the return state without one. -/
  settleDrive (s : Station) (l : Locker) : Station :=
    if (s.holdingAt l.number).isSome then s.settleHeld l.number
    else
      match l.returnState with
      | some .orphan =>
        if s.doorClosed l.number then s.settleLocker l.number .orphan else s.freeLocker l.number
      | some .outOfService => s.settleLocker l.number .outOfService
      | _ => s.freeLocker l.number

/-! ### A rebuild from a RECOUNT (R198) -/

/-- R198: the RECOUNT rebuilds a holding: the locker is ORPHAN, the band serial valid, and the party neither
held nor claimed here. -/
def Station.rebuilds (s : Station) (p : PartyKey) (locker : Nat) (serial : BitVec 24) : Bool :=
  1 ≤ serial.toNat && serial.toNat ≤ 16777214 &&
    decide (s.lockerState locker = some .orphan) && (s.holdingOf p).isNone && (s.claimOf p).isNone

/-- R198: the holding rebuilt carries RECOVERED and starts at the current minute; the locker is settled LOCKED
with its door CLOSED, or OPEN with FORCED. -/
def Station.rebuild (p : PartyKey) (locker : Nat) (serial : BitVec 24) (s : Station) : Station :=
  let closed := s.doorClosed locker
  let h : Holding :=
    { locker, party := p, serial, start := s.lockers.minute, openings := 0, overstay := false,
      double := false, unannounced := false, recovered := true, forced := !closed }
  let s := { s with lockers.holdings := s.lockers.holdings ++ [h] }
  if closed then s.lockLocker locker else s.settleLocker locker .opened

end Sys2Proof.Machine
end

