-- ==== Sys2Proof/Machine/Reports.lean ====
section
/-!
DEFINITION. What the owners of frames do with their reports (R138), and how the link controller comes back to
UP (R141). A meaning that can make reports ends by letting the owners take them.
-/

namespace Sys2Proof.Machine

open Sys2Proof

/-- R64, R83, R141: the link state is UP again: the claim unit starts an announcement walk and the directory resumes
production. DESIGN CHOICE: the walk offers its CLAIMs before the production its RECOUNTs, which shows only with a
full queue; the rules give no order (notes/assumptions/35.md). -/
def Station.linkUp (s : Station) : Station :=
  let s := { s with link.up := true, link.losses := 0, link.recessiveSeen := false }
  s.startWalk.produce

/-- R141: a frame has been delivered on the line: the line was recessive, and a link that is DOWN and has seen
its recessive span returns to UP. -/
def Station.frameHeard (s : Station) : Station :=
  let s := s.clearWatch
  if !s.link.up && s.link.recessiveSeen then s.linkUp else s

/-- R190: the REPORT of a RESTART has left the transmit queue, and the ORDERED warm start begins; it ends as
soon as every block has set aside what it loses (R195). -/
def Station.beginOrdered (s : Station) : Station := (s.beginWarm .ordered).endCause

/-- R49, R53, R54, R62: what the claim unit does with the report of a claim's CLAIM frame. A delivery whose
claim has ended draws a YIELD; the other reports of such a frame are ignored. -/
def Station.claimReported (f : TxFrame) (fate : Fate) (s : Station) : Station :=
  match s.claims.claims.find? fun c => decide (c.frame = some f.id) with
  | none =>
    match fate, sentParty f.content with
    | .delivered, some p =>
      s.offerIfUp .yield (partyLockerContent p (sentLocker f.content)) .claimUnit
    | _, _ => s
  | some c =>
    match fate with
    | .delivered => s.changeClaim c.party fun c => { c with state := .sent (s.now + 400) }
    | .notSent => (s.failClaim c .tryAgain).countFailed
    | .refusedDown => s.confirmClaim c true
    | .emptied => s.confirmClaim c true

/-- R65, R66: what the claim unit does with the report of an announcing CLAIM. A delivery whose holding has
ended draws a FREE. -/
def Station.announcementReported (f : TxFrame) (locker : Nat) (fate : Fate) (s : Station) : Station :=
  let listed := s.claims.announcements.any fun a => decide (a.locker = locker ∧ a.frame = f.id)
  let unlisted : Station :=
    { s with claims.announcements := s.claims.announcements.filter fun a => decide (a.frame ≠ f.id) }
  match fate with
  | .delivered =>
    if listed then
      (unlisted.changeHolding locker fun h => { h with unannounced := false }).continueWalk
    else
      match sentParty f.content with
      | some p => s.offerIfUp .free (partyLockerContent p locker) .claimUnit
      | none => s
  | _ => if listed then unlisted.continueWalk else s

/-- R138, R190: the order unit acts on the report of the REPORT that answers a RESTART. -/
def Station.reportReported (f : TxFrame) (s : Station) : Station :=
  match s.orders.restartWait with
  | some w => if w.frame = f.id then s.beginOrdered else s
  | none => s

/-- R197: the RECALL-delivered mark. -/
def Station.recallReported (fate : Fate) (s : Station) : Station :=
  match fate with
  | .delivered => { s with restart.recallDelivered := true }
  | _ => s

/-- R138: an owner takes a report. The tally unit and the locker table take no action on theirs. -/
def Station.takeReport (r : FrameReport) (s : Station) : Station :=
  match r.frame.kind with
  | .claim =>
    match r.frame.role with
    | .announcement locker => s.announcementReported r.frame locker r.fate
    | .claim => s.claimReported r.frame r.fate
    | .plain => s
  | .recount => s.recountReported
  | .recall => s.recallReported r.fate
  | .report => s.reportReported r.frame
  | .held => s
  | .yield => s
  | .free => s
  | .tally => s

/-- The owners take the reports in the order of their causes, those that their own reactions cause among them.
Each reaction uses up a claim, a mark of the cache or a place of the walk, so `fuel` above 256 is not used
up. -/
def takeReports : Nat → Station → Station
  | 0, s => { s with link.reports := [] }
  | fuel + 1, s =>
    match s.link.reports with
    | [] => s
    | r :: rest => takeReports fuel ({ s with link.reports := rest }.takeReport r)

def Station.finish (s : Station) : Station := takeReports 400 s

/-- A command that can queue frames acts on the station, and the owners of frames take their reports. DESIGN CHOICE:
they take them after the command's own effects, so the message of a claim that fails by a report replaces the command's
own; the rules do not order the two (notes/assumptions/46.md). -/
def performFinish (c : Instr) (f : Station → Station) (s : State) : Result :=
  perform c (fun t => (f t).finish) s

end Sys2Proof.Machine
end

