-- ==== Sys2Proof/Machine/LockerEvents.lean ====
section
/-!
DEFINITION. The meanings of the rows of the locker table's timers and of its door and bolt events: MINUTE_TICK
(R22, R23), GRANT_WAIT_EXPIRY (R34), DOOR_WAIT_EXPIRY (R35), BOLT_WAIT_EXPIRY, DOOR_OPENED, DOOR_CLOSED and
BOLT_EVENT (R36 to R41).
-/

namespace Sys2Proof.Machine

open Sys2Proof

/-! ### The minute counter (R22, R23) -/

/-- The elapsed time of a holding, in minutes, modulo 65 536 (R22). -/
def Holding.elapsed (h : Holding) (minute : BitVec 16) : Nat := (minute - h.start).toNat

/-- R23: OVERSTAY is set on a holding whose elapsed time is greater than the session limit; a limit of 0 means
there is none. -/
def Holding.timed (h : Holding) (limit : Nat) (minute : BitVec 16) : Holding :=
  { h with overstay := h.overstay || (decide (limit ≠ 0) && decide (limit < h.elapsed minute)) }

/-- R22, R23: 60 s of running time end. -/
def Station.minuteTick (s : Station) : Station :=
  let s := s.reach s.lockers.minuteDue
  let minute := s.lockers.minute + 1
  { s with
    lockers.minute := minute
    lockers.minuteDue := s.lockers.minuteDue + 60000
    lockers.holdings := s.lockers.holdings.map fun h => h.timed s.orders.setup.sessionLimit minute }

def execMinuteTick (s : State) : Result := perform .minuteTick (whenLive Station.minuteTick) s

/-! ### The waits of a locker (R34, R35, R37, R38) -/

/-- R34: the grant wait expires: the request is withdrawn, the holding ends and the locker is FREE. -/
def Station.grantWaitEnd (n : Nat) (s : Station) : Station :=
  match (s.locker? n).bind (·.grantWait) with
  | none => s
  | some t => ((s.withdrawGrant n t).endHoldingAt n).freeLocker n

def execGrantWaitExpiry (n : Nat) (s : State) : Result :=
  performFinish (.grantWaitExpiry n) (whenLive (Station.grantWaitEnd n)) s

/-- R35: the door wait expires: the request ends, and the locker is settled by its purpose. -/
def Station.doorWaitEnd (n : Nat) (s : Station) : Station :=
  match (s.locker? n).bind (·.doorWait) with
  | none => s
  | some t => ((s.reach t).withdrawDrive (lockerOutput n)).settleUntaken n

def execDoorWaitExpiry (n : Nat) (s : State) : Result :=
  performFinish (.doorWaitExpiry n) (whenLive (Station.doorWaitEnd n)) s

/-- R37, R38: the bolt wait expires with the bolt RETRACTED: the locker becomes UNSECURED. A bolt already sensed
ENGAGED leaves it LOCKED, as its bolt event does on either side of the expiry (notes/assumptions/11.md). -/
def Station.boltWaitEnd (n : Nat) (s : Station) : Station :=
  match (s.locker? n).bind (·.boltWait) with
  | none => s
  | some t =>
    let s := s.reach t
    if s.boltEngaged n then s.lockLocker n else s.settleLocker n .unsecured

def execBoltWaitExpiry (n : Nat) (s : State) : Result :=
  perform (.boltWaitExpiry n) (whenLive (Station.boltWaitEnd n)) s

/-! ### Door and bolt events -/

/-- Levels with the bit of record n set or clear; there is no record 0. -/
def setBit {w : Nat} (n : Nat) (made : Bool) (levels : BitVec w) : BitVec w :=
  let bit : BitVec w := if n = 0 then 0 else 1 <<< (n - 1)
  if made then levels ||| bit else levels &&& ~~~bit

/-- R160: a change of a filtered level has been reported. Where the sample that made it has not been seen here,
the switch and its samples are taken to be where the change puts them, and the moment at which the event is taken
to be its sample instant (notes/assumptions/13.md). -/
def Station.follow (f : Levels → Levels) (s : Station) : Station :=
  if f s.scan.level = s.scan.level then s
  else
    { s with
      scan.level := f s.scan.level
      scan.switches := f s.scan.switches
      scan.history := s.scan.history.map f }

/-- An event of the scanner reaches its owner only once the filters have been loaded (R165). -/
def whenLoaded (f : Station → Station) (s : Station) : Station :=
  whenLive (fun t => if t.scan.loaded then f t else t) s

/-- The door's filtered level is CLOSED or OPEN. -/
def Station.setDoor (n : Nat) (closed : Bool) (s : Station) : Station :=
  s.follow fun l => { l with door := setBit n closed l.door }

/-- The bolt's filtered level is ENGAGED or RETRACTED. -/
def Station.setBolt (n : Nat) (engaged : Bool) (s : Station) : Station :=
  s.follow fun l => { l with bolt := setBit n engaged l.bolt }

/-- R172: the cursor leaves the panel when the door of the marked locker opens. -/
def Station.cursorOpened (n : Nat) (s : Station) : Station :=
  if s.panel.cursor = some n then s.removeCursor else s

/-- R37: an OPEN locker whose bolt wait runs has opened again; the wait is cancelled. -/
def Station.cancelBoltWait (n : Nat) (s : Station) : Station :=
  s.changeLocker n fun l => { l with boltWait := none }

/-- R41: a LOCKED locker's door has been forced. -/
def Station.forceLocked (n : Nat) (s : Station) : Station :=
  ((s.forceDoor n).changeHolding n fun h => { h with forced := true }).settleLocker n .opened

/-- R36, R37, R39, R41: a door event OPEN by the state of the locker. -/
def Station.openDoor (n : Nat) (s : Station) : Station :=
  match s.lockerState n with
  | some .unbolting => (s.withdrawDrive (lockerOutput n)).settleTaken n
  | some .unbolted => (s.withdrawDrive (lockerOutput n)).settleTaken n
  | some .opened => s.cancelBoltWait n
  | some .unsecured => (s.settleLocker n .opened).countOpening n
  | some .locked => s.forceLocked n
  | some .free => s.forceDoor n
  | some .orphan => s.forceDoor n
  | some .claiming => s.forceDoor n
  | some .jammed => s
  | some .outOfService => s
  | none => s

/-- R162: a door event OPEN of a locker that has a record. -/
def Station.doorOpened (n : Nat) (s : Station) : Station :=
  if (s.locker? n).isSome then ((s.setDoor n false).openDoor n).cursorOpened n else s.setDoor n false

def execDoorOpened (n : Nat) (s : State) : Result :=
  perform (.doorOpened n) (whenLoaded (Station.doorOpened n)) s

/-- R37: the door of an OPEN locker has closed: LOCKED with the bolt ENGAGED, and otherwise the 2 s bolt
wait. -/
def Station.secure (n : Nat) (s : Station) : Station :=
  if s.boltEngaged n then s.lockLocker n
  else s.changeLocker n fun l => { l with boltWait := some (s.now + 2000) }

/-- R37, R39: a door event CLOSED by the state of the locker. -/
def Station.closeDoor (n : Nat) (s : Station) : Station :=
  match s.lockerState n with
  | some .opened => s.secure n
  | some .free => s.freeLocker n
  | _ => s

/-- R162: a door event CLOSED. -/
def Station.doorShut (n : Nat) (s : Station) : Station := (s.setDoor n true).closeDoor n

def execDoorClosed (n : Nat) (s : State) : Result :=
  perform (.doorClosed n) (whenLoaded (Station.doorShut n)) s

/-- R37, R38: the bolt has engaged, by the state of the locker. -/
def Station.boltIn (n : Nat) (s : Station) : Station :=
  match s.locker? n with
  | none => s
  | some l =>
    match l.state with
    | .unsecured => s.lockLocker n
    | .locked => s.cancelBoltWait n
    | .opened => if l.boltWait.isSome then s.lockLocker n else s
    | _ => s

/-- R38: the bolt has come back without a drive: a LOCKED locker starts its bolt wait. -/
def Station.boltOut (n : Nat) (s : Station) : Station :=
  match s.lockerState n with
  | some .locked => s.changeLocker n fun l => { l with boltWait := some (s.now + 2000) }
  | _ => s

/-- R162: a bolt event. -/
def Station.boltMoved (n : Nat) (engaged : Bool) (s : Station) : Station :=
  let s := s.setBolt n engaged
  if engaged then s.boltIn n else s.boltOut n

def execBoltEvent (n : Nat) (engaged : Bool) (s : State) : Result :=
  perform (.boltEvent n engaged) (whenLoaded (Station.boltMoved n engaged)) s

end Sys2Proof.Machine
end

