-- ==== Sys2Proof/Machine/CabinEvents.lean ====
section
/-!
DEFINITION. The meanings of the cabin unit's timer rows, of the pads' and of the latches' events (chapters 5
and 9): CABIN_CLOCK_TICK, GRACE_EXPIRY, ADMIT_TIMER_EXPIRY, VACATE_TIMER_EXPIRY, PRESENCE_SEEN,
PRESENCE_CONFIRMED, PRESENCE_CLEAR and LATCH_EVENT.
-/

namespace Sys2Proof.Machine

open Sys2Proof

/-! ### The cabin clock (R86, R96) -/

/-- R96, R188: an OCCUPIED cabin whose elapsed time exceeds the cabin limit gets OVERSTAY, and its seconds for the
report rise, up to 65 535. -/
def Station.timeCabin (s : Station) (c : Cabin) : Cabin :=
  if c.state = .occupied then
    { c with
      overstay := c.overstay || decide (60 * s.orders.setup.cabinLimit < s.elapsed c)
      seconds := satInc c.seconds }
  else c

/-- R188: the seconds of an entry for the report rise, up to 65 535. -/
def QueueEntry.timed (e : QueueEntry) : QueueEntry := { e with seconds := satInc e.seconds }

/-- R86: one second of running time ends. -/
def Station.clockTick (s : Station) : Station :=
  let s := s.reach s.cabins.clockDue
  let s := { s with cabins.clock := s.cabins.clock + 1, cabins.clockDue := s.cabins.clockDue + 1000 }
  { s with
    cabins.cabins := s.cabins.cabins.map s.timeCabin
    cabins.queue := s.cabins.queue.map QueueEntry.timed }

def execCabinClockTick (s : State) : Result := perform .cabinClockTick (whenLive Station.clockTick) s

/-! ### The timers of a cabin (R95, R99, R100) -/

/-- R99: the grace expires: the entry leaves the queue, the miss is counted and the cabin is released. -/
def Station.graceEnd (n : Nat) (s : Station) : Station :=
  match (s.cabin? n).bind (·.graceAt) with
  | none => s
  | some t =>
    let s := (s.reach t).dropReservation n
    { s with cabins.missed := satInc s.cabins.missed }.releaseCabin n

def execGraceExpiry (n : Nat) (s : State) : Result :=
  perform (.graceExpiry n) (whenLive (Station.graceEnd n)) s

/-- R100: the admit timer expires: the entry leaves the queue and the cabin is released. -/
def Station.admitEnd (n : Nat) (s : Station) : Station :=
  match (s.cabin? n).bind (·.admitAt) with
  | none => s
  | some t => ((s.reach t).dropReservation n).releaseCabin n

def execAdmitTimerExpiry (n : Nat) (s : State) : Result :=
  perform (.admitTimerExpiry n) (whenLive (Station.admitEnd n)) s

/-- R95: the vacate timer expires: D is updated with the measured dwell, and the cabin is released. -/
def Station.vacateEnd (n : Nat) (s : Station) : Station :=
  match s.cabin? n with
  | none => s
  | some c =>
    match c.vacateAt with
    | none => s
    | some t =>
      let s := s.reach t
      { s with cabins.dwell := dwellUpdate s.cabins.dwell (s.measuredDwell c) }.releaseCabin n

def execVacateTimerExpiry (n : Nat) (s : State) : Result :=
  perform (.vacateTimerExpiry n) (whenLive (Station.vacateEnd n)) s

/-! ### Presence (R91 to R94, R164) -/

/-- The pad's filtered level. -/
def Station.setPadLevel (n : Nat) (present : Bool) (s : Station) : Station :=
  s.follow fun l => { l with pad := setBit n present l.pad }

/-- R91: the presence field of the cabin's record. -/
def Station.setPresence (n : Nat) (p : Presence) (s : Station) : Station :=
  s.changeCabin n fun c => { c with presence := p }

/-- R94: a running vacate timer is cancelled. -/
def Station.cancelVacate (n : Nat) (s : Station) : Station :=
  s.changeCabin n fun c =>
    if c.state = .occupied ∧ c.vacateAt.isSome then { c with vacateAt := none, clearMoment := none } else c

/-- R164, R91, R94: the filtered level becomes present. -/
def Station.presenceSeen (n : Nat) (s : Station) : Station :=
  let s := s.setPadLevel n true
  if s.presence n = .clear then
    ((s.changePad n fun p => { p with presence := .seen, confirmAt := some (s.now + 1000) }).setPresence n
      .seen).cancelVacate n
  else s

def execPresenceSeen (n : Nat) (s : State) : Result :=
  perform (.presenceSeen n) (whenLoaded (Station.presenceSeen n)) s

/-- R91 to R93: confirmed presence by the state of the cabin. -/
def Station.takePresence (n : Nat) (s : Station) : Station :=
  match s.cabinState n with
  | some .free => s.walkIn n
  | some .reserved => s.walkIn n
  | some .admitting => s.admitCabin n
  | _ => s

/-- R164: the confirmation timer expires. -/
def Station.presenceConfirmed (n : Nat) (s : Station) : Station :=
  match (s.pad? n).bind (·.confirmAt) with
  | none => s
  | some t =>
    (((s.reach t).changePad n fun p => { p with presence := .confirmed, confirmAt := none }).setPresence n
      .confirmed).takePresence n

def execPresenceConfirmed (n : Nat) (s : State) : Result :=
  perform (.presenceConfirmed n) (whenLoaded (Station.presenceConfirmed n)) s

/-- R94: an OCCUPIED cabin whose presence clears starts its vacate timer. -/
def Station.startVacate (n : Nat) (s : Station) : Station :=
  s.changeCabin n fun c =>
    if c.state = .occupied then
      { c with
        vacateAt := some (s.now + 1000 * s.orders.setup.vacateTime)
        clearMoment := some s.cabins.clock }
    else c

/-- R164, R91, R94: the filtered level becomes absent. -/
def Station.presenceClear (n : Nat) (s : Station) : Station :=
  let s := s.setPadLevel n false
  if s.presence n = .clear then s
  else
    ((s.changePad n fun p => { p with presence := .clear, confirmAt := none }).setPresence n
      .clear).startVacate n

def execPresenceClear (n : Nat) (s : State) : Result :=
  perform (.presenceClear n) (whenLoaded (Station.presenceClear n)) s

/-! ### The latch (R89) -/

/-- A latch position as a level. -/
def latchOf (latched : Bool) : Latch := if latched then .latched else .unlatched

/-- R89: the position is the new filtered level, and, with no request in flight, R87's comparison is made. -/
def Station.latchMoved (n : Nat) (latched : Bool) (s : Station) : Station :=
  let s := s.follow fun l => { l with latch := setBit n latched l.latch }
  (s.changeCabin n fun c => { c with latchPosition := latchOf latched }).compareLatch n

def execLatchEvent (n : Nat) (latched : Bool) (s : State) : Result :=
  perform (.latchEvent n latched) (whenLoaded (Station.latchMoved n latched)) s

end Sys2Proof.Machine
end

