-- ==== Sys2Proof/Machine/ClaimEvents.lean ====
section
/-!
DEFINITION. The meanings of CLAIM_SEND_DEADLINE (R52) and CLAIM_WINDOW_END (R51).
-/

namespace Sys2Proof.Machine

open Sys2Proof

/-- R52: the claim is still QUEUED at its deadline: its CLAIM is withdrawn and it fails. -/
def Station.claimDeadline (p : PartyKey) (s : Station) : Station :=
  match s.claimOf p with
  | none => s
  | some c =>
    match c.state with
    | .sent _ => s
    | .queued =>
      let s := s.reach (c.queueTime + 1000)
      ((s.withdrawClaim c).failClaim c .linkBusy).countFailed

def execClaimSendDeadline (p : PartyKey) (s : State) : Result :=
  performFinish (.claimSendDeadline p) (whenLive (Station.claimDeadline p)) s

/-- R51: the window of a SENT claim ends without a HELD: the claim is confirmed. -/
def Station.claimWindow (p : PartyKey) (s : Station) : Station :=
  match s.claimOf p with
  | none => s
  | some c =>
    match c.state with
    | .queued => s
    | .sent windowEnd => (s.reach windowEnd).confirmClaim c false

def execClaimWindowEnd (p : PartyKey) (s : State) : Result :=
  performFinish (.claimWindowEnd p) (whenLive (Station.claimWindow p)) s

end Sys2Proof.Machine
end

