-- ==== Sys2Proof/Machine/DriveEvents.lean ====
section
/-!
DEFINITION. The meanings of the drive arbiter's rows and of the drive supply's (chapters 8 and 12): PULL_END,
JAM_REST_END, SLOT_REST_END, DRIVE_FAULT, DRIVE_SUPPLY_LOW, DRIVE_SUPPLY_RISE, DRIVE_SUPPLY_SAG and
HOLD_DOWN_RELEASE.
-/

namespace Sys2Proof.Machine

open Sys2Proof

/-! ### The end of a pull (R149, R150) -/

/-- R150: the third failed attempt: the request leaves the queue and the jams counter rises. -/
def Station.jamRequest (output : Nat) (s : Station) : Station :=
  let s := s.removeRequest output
  { s with drive.jams := satInc s.drive.jams }

/-- R150: the request rests for 200 ms. DEDUCED: its attempt number stays that of the failed attempt until the rest
ends, as R150 says, though R145 and R158 read otherwise (notes/assumptions/49.md). -/
def Station.restRequest (output : Nat) (s : Station) : Station :=
  s.changeRequest output fun r => { r with phase := .rest (s.now + 200) }

/-- R149: the end of a bolt's pull: PULLED, with REACHED, NOT REACHED or JAMMED. -/
def Station.boltPulled (r : DriveRequest) (s : Station) : Station :=
  let n := r.output + 1
  if !s.boltEngaged n then
    ((s.changeRequest r.output fun q => { q with phase := .hold }).countWear n).boltReached n
  else if r.attempt < 3 then (s.restRequest r.output).countWear n
  else ((s.jamRequest r.output).countWear n).jamLocker n

/-- R149: the end of a latch's pull: REACHED, NOT REACHED or JAMMED. -/
def Station.latchPulled (r : DriveRequest) (target : Latch) (s : Station) : Station :=
  let c := r.output - 59
  if s.latchLevel c = target then ((s.removeRequest r.output).latchDone c).grantTest
  else if r.attempt < 3 then (s.restRequest r.output).latchMissed c target
  else (s.jamRequest r.output).faultCabin c

/-- R17, R34: the locker table takes the PULLED report of a pull whose request it has withdrawn: the wear count
rises, and no state changes. -/
def Station.lateReport (output : Nat) (s : Station) : Station :=
  { s with drive.late := s.drive.late.erase output }.countWear (output + 1)

/-- R149, R151: a pull has run to its pull time. A report that is still on its way from this output is taken
first. -/
def Station.pullEnd (output : Nat) (s : Station) : Station :=
  if s.drive.late.contains output then s.lateReport output
  else
    match s.request? output with
    | none => s
    | some r =>
      match r.phase with
      | .pull slot ends =>
        let s := (s.reach ends).restSlot slot
        match r.purpose with
        | .bolt _ => s.boltPulled r
        | .latch t => s.latchPulled r t
      | _ => s

def execPullEnd (output : Nat) (s : State) : Result :=
  perform (.pullEnd output) (whenLive (Station.pullEnd output)) s

/-- R150: the jam rest ends: the attempt rises and the request waits at the tail of the queue. -/
def Station.jamRestEnd (output : Nat) (s : Station) : Station :=
  match s.request? output with
  | none => s
  | some r =>
    match r.phase with
    | .rest ends =>
      let s := (s.reach ends).removeRequest output
      { s with
        drive.queue := s.drive.queue ++ [{ r with attempt := r.attempt + 1, phase := .waiting }] }.grantTest
    | _ => s

def execJamRestEnd (output : Nat) (s : State) : Result :=
  perform (.jamRestEnd output) (whenLive (Station.jamRestEnd output)) s

/-- R151: the rest of a slot ends, and R146 is applied. -/
def Station.slotRestEnd (k : Nat) (s : Station) : Station :=
  match (s.drive.slots.find? fun x => decide (x.number = k)).bind (·.restUntil) with
  | none => s
  | some t =>
    let s := s.reach t
    { s with
      drive.slots :=
        updateWhere (fun x => decide (x.number = k)) (fun x => { x with restUntil := none })
          s.drive.slots }.grantTest

def execSlotRestEnd (k : Nat) (s : State) : Result :=
  perform (.slotRestEnd k) (whenLive (Station.slotRestEnd k)) s

/-! ### Fault groups (R153) -/

/-- A bit of a group's input or latch. -/
def groupBit (g : Nat) (b : Bool) (x : BitVec 4) : BitVec 4 :=
  if b then x ||| ((1 : BitVec 4) <<< g) else x &&& ~~~((1 : BitVec 4) <<< g)

/-- R153: the group's input becomes active while its latch is CLEAR: the latch sets, and the group's requests in
PULL and HOLD are aborted (R154). In STRAP_FAULT and in a start no latch is tracked (R157). -/
def Station.driveFault (g : Nat) (active : Bool) (s : Station) : Station :=
  let s := { s with drive.inputs := groupBit g active s.drive.inputs }
  if s.live && active && !s.faulted g then
    { s with drive.latches := groupBit g true s.drive.latches }.abortDrives
      fun r => decide (groupOf r.output = g)
  else s

def execDriveFault (g : Nat) (active : Bool) (s : State) : Result :=
  performFinish (.driveFault g active) (Station.driveFault g active) s

/-! ### The drive supply (R194, R155) -/

/-- R194: the supply falls below 20.0 V. From RELEASED, hold-down comes into force and every pull and hold is
aborted; a release timer that runs is cancelled. -/
def Station.supplyLow (s : Station) : Station :=
  let held := s.restart.holdDown
  let s :=
    { s with
      restart.driveSupply := .low
      restart.holdDown := true
      restart.releaseAt := none }
  if held then s else s.abortDrives fun _ => true

def execDriveSupplyLow (s : State) : Result := performFinish .driveSupplyLow Station.supplyLow s

/-- R194: the supply rises above 21.5 V: in force, the 100 ms release timer starts. -/
def Station.supplyRise (s : Station) : Station :=
  { s with
    restart.driveSupply := .high
    restart.releaseAt :=
      if s.restart.holdDown && s.restart.releaseAt.isNone then some (s.now + 100)
      else s.restart.releaseAt }

def execDriveSupplyRise (s : State) : Result := perform .driveSupplyRise Station.supplyRise s

/-- R194: the supply falls to 21.5 V or below: a release timer that runs is cancelled. -/
def Station.supplySag (s : Station) : Station :=
  { s with restart.driveSupply := .middle, restart.releaseAt := none }

def execDriveSupplySag (s : State) : Result := perform .driveSupplySag Station.supplySag s

/-- R194, R155: the release timer expires: hold-down is RELEASED, and R146 is applied. -/
def Station.releaseHoldDown (s : Station) : Station :=
  match s.restart.releaseAt with
  | none => s
  | some t =>
    let s := s.reach t
    { s with restart.holdDown := false, restart.releaseAt := none }.grantTest

def execHoldDownRelease (s : State) : Result := perform .holdDownRelease Station.releaseHoldDown s

end Sys2Proof.Machine
end

