-- ==== Sys2Proof/Machine/Frames.lean ====
section
/-!
DEFINITION. The meanings of the rows of received frames: HELD, YIELD, FREE, CLAIM, RECOUNT, RECALL and TALLY
(R132; chapters 3, 4, 6 and 12).
-/

namespace Sys2Proof.Machine

open Sys2Proof

/-- R130, R132, R141: a delivered frame is heard on the line, and, unless it carries this station's own
number, is handed to the blocks that act on its kind. -/
def Station.receive (sender : BitVec 5) (content : List Byte) (handed : Received → Station → Station)
    (s : Station) : Station :=
  let s := s.frameHeard
  if sender.toNat = s.restart.station then s
  else handed { moment := s.now, sender, content } s

/-! ### HELD (R57 to R59, R75) -/

/-- R75: the directory takes a HELD: the sender holds the party. The band is kept as it was, or is 0. -/
def Station.learnHeld (f : Received) (s : Station) : Station :=
  match f.party 0 with
  | none => s
  | some p =>
    let locker := (f.byte 4).toNat
    if usableFact f.station locker then
      s.learn p f.station locker ((s.entryOf p).elim 0 (·.serial))
    else s

/-- R57, R58: a HELD fails the party's claim. A SENT claim yields; a QUEUED one is withdrawn. -/
def Station.claimHeld (f : Received) (c : Claim) (s : Station) : Station :=
  let locker := (f.byte 4).toNat
  match c.state with
  | .sent _ =>
    ((s.offerIfUp .yield (partyLockerContent c.party c.locker) .claimUnit).failRedirected c f.station
      locker).countYielded
  | .queued => ((s.withdrawClaim c).failRedirected c f.station locker).countFailed

/-- R59: a HELD for a party held here sets DOUBLE, once, and counts a double. -/
def Station.setDouble (h : Holding) (s : Station) : Station :=
  if h.double then s
  else
    let s := s.changeHolding h.locker fun h => { h with double := true }
    { s with lockers.doubles := satInc s.lockers.doubles }

def Station.takeHeld (f : Received) (s : Station) : Station :=
  let s := s.learnHeld f
  match f.party 0 with
  | none => s
  | some p =>
    match s.claimOf p with
    | some c => s.claimHeld f c
    | none =>
      match s.holdingOf p with
      | some h => s.setDouble h
      | none => s

def execHeldReceived (sender : BitVec 5) (content : List Byte) (s : State) : Result :=
  performFinish (.heldReceived sender content)
    (whenLive (Station.receive sender content Station.takeHeld)) s

/-! ### YIELD and FREE (R77) -/

/-- R77: the directory deletes the party's entry if it names the sender. -/
def Station.takeLetGo (f : Received) (s : Station) : Station :=
  match f.party 0 with
  | none => s
  | some p => s.forget p f.station

def execYieldReceived (sender : BitVec 5) (content : List Byte) (s : State) : Result :=
  performFinish (.yieldReceived sender content)
    (whenLive (Station.receive sender content Station.takeLetGo)) s

def execFreeReceived (sender : BitVec 5) (content : List Byte) (s : State) : Result :=
  performFinish (.freeReceived sender content)
    (whenLive (Station.receive sender content Station.takeLetGo)) s

/-! ### CLAIM (R42, R55, R56, R74) -/

/-- R74: the directory takes a CLAIM. -/
def Station.learnClaim (f : Received) (s : Station) : Station :=
  match f.party 0 with
  | none => s
  | some p =>
    let locker := (f.byte 4).toNat
    if usableFact f.station locker then s.learn p f.station locker (f.serial 5) else s

/-- R55, R56: a peer's CLAIM for the party of a claim here: a QUEUED claim is withdrawn and fails with a
redirect to the peer; a SENT claim draws a HELD and runs on. -/
def Station.claimClaimed (f : Received) (c : Claim) (s : Station) : Station :=
  match c.state with
  | .queued => ((s.withdrawClaim c).failRedirected c f.station (f.byte 4).toNat).countFailed
  | .sent _ => s.offerIfUp .held (heldContent c.party c.locker f.station) .claimUnit

/-- R42: a peer's CLAIM for a party held here draws a HELD. -/
def Station.holdingClaimed (f : Received) (h : Holding) (s : Station) : Station :=
  s.offerIfUp .held (heldContent h.party h.locker f.station) .lockerTable

def Station.takeClaim (f : Received) (s : Station) : Station :=
  let s := s.learnClaim f
  match f.party 0 with
  | none => s
  | some p =>
    match s.claimOf p with
    | some c => s.claimClaimed f c
    | none =>
      match s.holdingOf p with
      | some h => s.holdingClaimed f h
      | none => s

def execClaimReceived (sender : BitVec 5) (content : List Byte) (s : State) : Result :=
  performFinish (.claimReceived sender content)
    (whenLive (Station.receive sender content Station.takeClaim)) s

/-! ### RECOUNT and RECALL (R76, R81, R198) -/

/-- R76: the holder named is the recaller. A RECOUNT that names this station goes to the locker table, which
rebuilds a holding or ignores it (R198). -/
def Station.takeRecount (f : Received) (s : Station) : Station :=
  let recaller := (f.byte 0).toNat
  let locker := (f.byte 5).toNat
  match f.party 1 with
  | none => s
  | some p =>
    if recaller = s.restart.station then
      if s.rebuilds p locker (f.serial 6) then s.rebuild p locker (f.serial 6) else s
    else if usableFact recaller locker then s.learn p recaller locker (f.serial 6)
    else s

def execRecountReceived (sender : BitVec 5) (content : List Byte) (s : State) : Result :=
  performFinish (.recountReceived sender content)
    (whenLive (Station.receive sender content Station.takeRecount)) s

/-- R81: the entries naming the sender are marked, and production goes on. -/
def Station.takeRecall (f : Received) (s : Station) : Station := (s.markRecount f.station).produce

def execRecallReceived (sender : BitVec 5) (content : List Byte) (s : State) : Result :=
  performFinish (.recallReceived sender content)
    (whenLive (Station.receive sender content Station.takeRecall)) s

/-! ### TALLY (R114) -/

/-- R114: the neighbour entry a TALLY writes; none for a TALLY that is ignored. -/
def Received.neighbour (f : Received) : Option Neighbour :=
  let std := (f.byte 1).toNat
  let lrg := (f.byte 2).toNat
  let wait := (fromTwo (f.byte 4) (f.byte 5)).toNat
  if 1 ≤ f.station && f.station ≤ 27 && f.content.length == 8 && (f.byte 0).toNat ≤ 7 && std + lrg ≤ 60 &&
      (f.byte 3).toNat ≤ 16 && (wait ≤ 30600 || wait == 65535) then
    (modeOf (f.byte 6)).map fun mode =>
      { station := f.station
        zone := (f.byte 0).toNat
        freeStandard := std
        freeLarge := lrg
        queue := (f.byte 3).toNat
        wait
        mode
        driveHold := (f.byte 7).getLsbD 0
        heardAt := f.moment
        aged := false
        heard := true }
  else none

/-- R114: an accepted TALLY overwrites the sender's entry. -/
def Station.takeTally (f : Received) (s : Station) : Station :=
  match f.neighbour with
  | none => s
  | some n =>
    { s with
      tally.neighbours :=
        updateWhere (fun m => decide (m.station = n.station)) (fun _ => n) s.tally.neighbours }

def execTallyReceived (sender : BitVec 5) (content : List Byte) (s : State) : Result :=
  performFinish (.tallyReceived sender content)
    (whenLive (Station.receive sender content Station.takeTally)) s

end Sys2Proof.Machine
end

