-- ==== Sys2Proof/Machine/LinkEvents.lean ====
section
/-!
DEFINITION. The meanings of the rows of the line: the attempts of this station's frames (R128 to R131), the
frames a receiver does not hand on (R130, R132), and the spans that govern the link state (R139, R141).
-/

namespace Sys2Proof.Machine

open Sys2Proof

/-- R134: the first entry of the transmit queue contends. In STRAP_FAULT nothing is sent. -/
def execFrameAttemptStart (s : State) : Result :=
  perform .frameAttemptStart (whenLive Station.startAttempt) s

/-- R128: the frame waits unchanged, in place and attempt count. -/
def execArbitrationLost (s : State) : Result :=
  perform .arbitrationLost (whenLive Station.loseArbitration) s

/-- R131, R139: after the owner of a fourth lost frame has been told, a successive-loss count of 4 takes the
link DOWN. -/
def Station.attemptFailed (s : Station) : Station :=
  let s := s.spoilAttempt.finish
  if s.link.up && decide (4 ≤ s.link.losses) then s.goDown else s

/-- R129: a bit error ends the attempt as a spoiled attempt. -/
def execBitError (s : State) : Result :=
  performFinish .bitError (whenLive Station.attemptFailed) s

/-- R131, R141: the spoil slot of this station's attempt reads recessive: the frame leaves the queue, and a link
that is DOWN and has seen its recessive span returns to UP. DEDUCED: the frame has left the queue, as R131 says,
before the walk of R64 and the production of R83 offer their frames (notes/assumptions/34.md). -/
def Station.ownDelivered (s : Station) : Station :=
  match s.frameOnLine with
  | none => s
  | some f => (s.deliverAttempt f).frameHeard

def execOwnFrameDelivered (s : State) : Result :=
  performFinish .ownFrameDelivered (whenLive Station.ownDelivered) s

/-- R131: the spoil slot of this station's attempt reads dominant. -/
def execAttemptSpoiled (s : State) : Result :=
  performFinish .attemptSpoiled (whenLive Station.attemptFailed) s

/-- R127, R130: the bytes before the check are those of a frame read to its end: an arbitration byte, a length byte
of 0 to 12, and that many content bytes. -/
def wholeFrame (bytes : List Byte) : Bool :=
  match bytes with
  | _ :: length :: content => length.toNat ≤ 12 && content.length = length.toNat
  | _ => false

/-- R130: a frame read to its end whose check differs has its spoil slot driven dominant, which is counted; a frame
whose own reading was good and whose slot reads dominant is discarded, and so is one broken off, for which no slot is
driven. The line was recessive within the frame (R139). -/
def Station.frameSpoiled (bytes : List Byte) (check : BitVec 16) (s : Station) : Station :=
  let s := s.clearWatch
  if wholeFrame bytes && decide (frameCheck bytes ≠ check) then
    { s with link.spoilSlot := .dominant, link.spoilsDriven := satInc s.link.spoilsDriven }
  else s

def execFrameSpoiled (bytes : List Byte) (check : BitVec 16) (s : State) : Result :=
  perform (.frameSpoiled bytes check) (whenLive (Station.frameSpoiled bytes check)) s

/-- R130: the frame is discarded as broken, and the receiver waits for the next gap. -/
def execFrameBroken (why : BrokenFrame) (s : State) : Result :=
  perform (.frameBroken why) (whenLive Station.clearWatch) s

/-- R132, R141: a frame that goes to no block has still been delivered on the line. -/
def execFrameDiscarded (sender : BitVec 5) (kind : Kind) (content : List Byte) (s : State) : Result :=
  performFinish (.frameDiscarded sender kind content) (whenLive Station.frameHeard) s

/-- The link controller tracks the line: not in STRAP_FAULT (R142), and on through a warm start (R142). -/
def whenTracking (f : Station → Station) (s : Station) : Station :=
  if s.live || (match s.restart.phase with
    | .warm _ => true
    | _ => false) then f s
  else s

/-- R139, R141: 20 ms of dominant line take the link DOWN; while DOWN they clear the recessive span. -/
def Station.dominantSpan (s : Station) : Station :=
  let s := { s with link.dominantWatch := 20, link.spoilSlot := .recessive }
  if s.link.up then s.goDown else { s with link.recessiveSeen := false }

def execDominantWatchExpiry (s : State) : Result :=
  performFinish .dominantWatchExpiry (whenTracking Station.dominantSpan) s

/-- R141: while DOWN, 20 ms of recessive line are recorded. -/
def execRecessiveSpan (s : State) : Result :=
  perform .recessiveSpan
    (whenTracking fun t =>
      { t.clearWatch with link.recessiveSeen := t.link.recessiveSeen || !t.link.up }) s

end Sys2Proof.Machine
end

