-- ==== Sys2Proof/Machine/Orders.lean ====
section
/-!
DEFINITION. The meanings of the ORDER rows and of RESTART_WAIT_EXPIRY (chapter 11, with the orders' own rules
in chapters 2, 5 and 8): the tests of R180 and R181, the REPORT frames of R182, and each order's effect.
-/

namespace Sys2Proof.Machine

open Sys2Proof

/-! ### Answers (R182) -/

/-- What an order draws: no REPORT (R189), one REPORT with a result and no data, or the parts of a DATA
answer. -/
inductive Answer where
  | silent
  | plain (result : OrderResult)
  | parts (data : List (List Byte))
  deriving DecidableEq, Repr

/-- A parameter byte of an order that carries enough of them. -/
def paramByte (o : OrderFrame) (i : Nat) : Byte := o.params[i]?.getD 0

/-- R179: the console is the sender number less 27. -/
def consoleOf (o : OrderFrame) : Nat := o.sender.toNat - 27

/-- R182: the page of an answer: the page parameter of a READ COUNTERS (code 9) or a READ CABINS (code 11), 0
for the other orders. -/
def reportPage (code : Byte) (o : OrderFrame) (part : Nat) : Byte :=
  if code = 9 ∨ code = 11 then
    match o.params[0]? with
    | some page =>
      if 4 * page.toNat + part ≤ 255 then oneByte (4 * page.toNat + part)
      else Config.pageByte (some page.toNat)
    | none => Config.pageByte none
  else oneByte part

/-- A REPORT frame is queued as kind 6. -/
def Station.queueReport (code : Byte) (o : OrderFrame) (result : OrderResult) (part : Nat)
    (data : List Byte) (s : Station) : Station :=
  s.offer .report (reportContent (consoleOf o) code result.code (reportPage code o part) data) .orderUnit
    .plain

/-- The parts of an answer are queued in order, part 0 first. -/
def Station.queueParts (code : Byte) (o : OrderFrame) : Nat → List (List Byte) → Station → Station
  | _, [], s => s
  | part, d :: rest, s => Station.queueParts code o (part + 1) rest (s.queueReport code o .data part d)

/-- R182: the REPORT frames that an answer calls for. -/
def Station.answer (code : Byte) (o : OrderFrame) (a : Answer) (s : Station) : Station :=
  match a with
  | .silent => s
  | .plain r => s.queueReport code o r 0 []
  | .parts data => Station.queueParts code o 0 data s

/-! ### Taking an order (R132, R179 to R181) -/

/-- R132, R179: an ORDER delivered on the line reaches the order unit when its target is 0 or this station, and
is taken from a console only. An order that arrives while a RESTART waits is refused. DESIGN CHOICE: the frames of the
order's own effect (a RECALL, a FREE, a CLAIM of the announcement walk) are offered before its REPORT; R179 and R182
queue them at one moment and give no order (notes/assumptions/45.md). -/
def Station.orderReceived (code : Byte) (o : OrderFrame) (take : Station → Station × Answer) (s : Station) :
    Station :=
  let s := s.frameHeard
  if o.target.toNat ≠ 0 ∧ o.target.toNat ≠ s.restart.station then s
  else if o.sender.toNat < 28 then s
  else if s.orders.restartWait.isSome then s.answer code o (.plain .refusedState)
  else (take s).1.answer code o (take s).2

/-- R180: the tests after the first, in order: the parameter bytes needed, the station mode (R181), the coded
parameters, and the thing named. Then the order's own rule. -/
def Station.testOrder (o : OrderFrame) (need : Nat) (turnedAway : Station → Option Answer)
    (coded : Bool) (named : Station → Bool) (act : Station → Station × Answer) (s : Station) :
    Station × Answer :=
  if o.params.length < need then (s, .plain .refusedRange)
  else
    match turnedAway s with
    | some a => (s, a)
    | none =>
      if !coded then (s, .plain .refusedRange)
      else if !named s then (s, .plain .refusedNoSuch)
      else act s

/-- A command of the order unit: an ORDER is received, and the frames' owners take their reports. -/
def performOrder (c : Instr) (code : Byte) (o : OrderFrame) (take : Station → Station × Answer) (s : State) :
    Result :=
  performFinish c (whenLive (Station.orderReceived code o take)) s

/-- R181: a setup order is allowed in UNSET while its lock is open. -/
def setupAway (closed : Station → Bool) (s : Station) : Option Answer :=
  if s.restart.mode = .unset ∧ closed s = false then none else some (.plain .refusedSetupClosed)

/-- R181: an order allowed in every mode. -/
def neverAway (_ : Station) : Option Answer := none

/-- R181: a read of lockers or cabins is not allowed in UNSET. -/
def awayInUnset (s : Station) : Option Answer :=
  if s.restart.mode = .unset then some (.plain .refusedState) else none

/-- R181: FIND PARTY draws no answer in UNSET. -/
def silentInUnset (s : Station) : Option Answer := if s.restart.mode = .unset then some .silent else none

/-- R181: an order that changes a locker, a cabin, a drive group or the day is allowed in RUN. -/
def awayOutsideRun (s : Station) : Option Answer :=
  if s.restart.mode = .run then none else some (.plain .refusedState)

/-- The order names nothing whose existence is tested. -/
def namesNothing (_ : Station) : Bool := true

/-- R180: the locker named exists. -/
def namesLocker (n : Nat) (s : Station) : Bool := 1 ≤ n && n ≤ s.orders.setup.lockerCount

/-- R180: the cabin named exists. -/
def namesCabin (n : Nat) (s : Station) : Bool := 1 ≤ n && n ≤ s.orders.setup.cabinCount

/-- The order is carried out with result DONE. -/
def Station.done (s : Station) : Station × Answer := (s, .plain .done)

/-- The order is refused by the state of the thing it names. -/
def Station.refusedByState (s : Station) : Station × Answer := (s, .plain .refusedState)

/-! ### An order with a bad code, or from a bank station (R179, R180) -/

/-- R180: an order code outside 1 to 13 is REFUSED NO_SUCH. -/
def execOrderBadCode (code : Byte) (o : OrderFrame) (s : State) : Result :=
  performOrder (.orderBadCode code o) code o
    (fun t => if 1 ≤ code.toNat ∧ code.toNat ≤ 13 then (t, .silent) else (t, .plain .refusedNoSuch)) s

/-! ### The setup orders (R183, R184) -/

/-- A field that is clamped. -/
def clamp (low high n : Nat) : Nat := max low (min high n)

/-- R183: 0 gives none; 1 to 29 give 30; above 720 gives 720. -/
def sessionTaken (n : Nat) : Nat := if n = 0 then 0 else clamp 30 720 n

/-- R183: the door wait: 0 gives 15 s, and any other value is clamped to 5 to 30. -/
def doorWaitTaken (n : Nat) : Nat := if n = 0 then 15 else clamp 5 30 n

/-- R184: the vacate time: 0 gives 10 s, and any other value is clamped to 5 to 30. -/
def vacateTaken (n : Nat) : Nat := if n = 0 then 10 else clamp 5 30 n

/-- R159: the filter interval used for a value given. -/
def filterTaken (n : Nat) : Nat := if n ≤ 1 then 1 else if n ≤ 3 then 2 else if n ≤ 7 then 4 else 8

/-- R183: the fields of SETUP LOCKERS as taken into the setup record. -/
def lockersTaken (o : OrderFrame) (r : Setup) : Setup :=
  let count := min 60 (paramByte o 0).toNat
  { r with
    lockerCount := count
    largeCount := min count (paramByte o 1).toNat
    dayCode := paramByte o 2
    sessionLimit := sessionTaken (fromTwo (paramByte o 3) (paramByte o 4)).toNat
    doorWait := doorWaitTaken (paramByte o 5).toNat
    pullTime := clamp 20 200 (paramByte o 6).toNat
    holdDuty := clamp 10 60 (paramByte o 7).toNat
    filterInterval := filterTaken (paramByte o 8).toNat }

/-- R183: SETUP LOCKERS is refused for a locker count of 0; otherwise its fields are taken, its lock closes, and
restart control is told. -/
def Station.takeSetupLockers (o : OrderFrame) (s : Station) : Station × Answer :=
  if (paramByte o 0).toNat = 0 then (s, .plain .refusedRange)
  else
    Station.done
      { s with
        orders.setup := lockersTaken o s.orders.setup
        orders.lockersLockClosed := true }.setupAccepted

def execSetupLockers (o : OrderFrame) (s : State) : Result :=
  performOrder (.setupLockers o) 1 o
    (Station.testOrder o 9 (setupAway (·.orders.lockersLockClosed)) true namesNothing
      (Station.takeSetupLockers o)) s

/-- R184: the fields of SETUP CABINS as taken into the setup record. -/
def cabinsTaken (o : OrderFrame) (r : Setup) : Setup :=
  { r with
    cabinCount := min 8 (paramByte o 0).toNat
    cabinLimit := clamp 5 30 (paramByte o 1).toNat
    grace := clamp 15 120 (paramByte o 2).toNat
    vacateTime := vacateTaken (paramByte o 3).toNat
    walkPenalty := (paramByte o 4).toNat
    margin := (paramByte o 5).toNat
    initialDwell := clamp 30 1800 (fromTwo (paramByte o 6) (paramByte o 7)).toNat }

/-- R117, R184: SETUP CABINS is never refused by its fields; D takes the initial dwell average as taken. -/
def Station.takeSetupCabins (o : OrderFrame) (s : Station) : Station × Answer :=
  Station.done
    { s with
      orders.setup := cabinsTaken o s.orders.setup
      orders.cabinsLockClosed := true
      cabins.dwell := (cabinsTaken o s.orders.setup).initialDwell }.setupAccepted

def execSetupCabins (o : OrderFrame) (s : State) : Result :=
  performOrder (.setupCabins o) 2 o
    (Station.testOrder o 8 (setupAway (·.orders.cabinsLockClosed)) true namesNothing
      (Station.takeSetupCabins o)) s

/-- R185: SET DAY replaces the day code. -/
def Station.takeSetDay (o : OrderFrame) (s : Station) : Station × Answer :=
  Station.done { s with orders.setup.dayCode := paramByte o 0 }

def execSetDay (o : OrderFrame) (s : State) : Result :=
  performOrder (.setDay o) 3 o
    (Station.testOrder o 1 awayOutsideRun true namesNothing (Station.takeSetDay o)) s

/-! ### Orders on lockers (R40, R43, R44) -/

/-- R43: OPEN LOCKER by the state of the locker. -/
def Station.takeOpenLocker (n : Nat) (s : Station) : Station × Answer :=
  match s.lockerState n with
  | some .locked => Station.done (s.unboltLocker n .attendant .locked none)
  | some .orphan => Station.done (s.unboltLocker n .attendant .orphan none)
  | some .free => Station.done (s.unboltLocker n .attendant .free none)
  | some .outOfService => Station.done (s.unboltLocker n .attendant .outOfService none)
  | some .opened => s.done
  | some .unsecured => s.done
  | _ => s.refusedByState

def execOpenLocker (o : OrderFrame) (s : State) : Result :=
  performOrder (.openLocker o) 4 o
    (Station.testOrder o 1 awayOutsideRun true (namesLocker (paramByte o 0).toNat)
      (Station.takeOpenLocker (paramByte o 0).toNat)) s

/-- R44: the states in which END HOLDING ends a holding. -/
def endable : Option LockerState → Bool
  | some .opened => true
  | some .locked => true
  | some .unsecured => true
  | some .jammed => true
  | _ => false

/-- R44: END HOLDING ends the holding, and the locker becomes FREE with its door as sensed. -/
def Station.takeEndHolding (n : Nat) (s : Station) : Station × Answer :=
  if endable (s.lockerState n) && (s.holdingAt n).isSome then Station.done ((s.endHoldingAt n).freeLocker n)
  else s.refusedByState

def execEndHolding (o : OrderFrame) (s : State) : Result :=
  performOrder (.endHolding o) 5 o
    (Station.testOrder o 1 awayOutsideRun true (namesLocker (paramByte o 0).toNat)
      (Station.takeEndHolding (paramByte o 0).toNat)) s

/-- R44: LOCKER SERVICE off. -/
def Station.takeLockerOff (n : Nat) (s : Station) : Station × Answer :=
  match s.lockerState n with
  | some .free => Station.done (s.settleLocker n .outOfService)
  | some .outOfService => s.done
  | _ => s.refusedByState

def execLockerServiceOff (o : OrderFrame) (s : State) : Result :=
  performOrder (.lockerServiceOff o) 6 o
    (Station.testOrder o 2 awayOutsideRun (decide (paramByte o 1 = 0)) (namesLocker (paramByte o 0).toNat)
      (Station.takeLockerOff (paramByte o 0).toNat)) s

/-- R44: LOCKER SERVICE on. -/
def Station.takeLockerOn (n : Nat) (s : Station) : Station × Answer :=
  match s.lockerState n with
  | some .outOfService => Station.done (s.freeLocker n)
  | some .free => s.done
  | _ => s.refusedByState

def execLockerServiceOn (o : OrderFrame) (s : State) : Result :=
  performOrder (.lockerServiceOn o) 6 o
    (Station.testOrder o 2 awayOutsideRun (decide (paramByte o 1 = 1)) (namesLocker (paramByte o 0).toNat)
      (Station.takeLockerOn (paramByte o 0).toNat)) s

/-- R40: a jammed locker is settled from its purpose, its return state and its door. -/
def Station.settleJam (l : Locker) (s : Station) : Station :=
  let n := l.number
  match l.purpose, l.returnState with
  | some .first, _ => (s.endHoldingAt n).freeLocker n
  | some .attendant, some .orphan => if s.doorClosed n then s.settleLocker n .orphan else s.freeLocker n
  | some .attendant, some .free => s.freeLocker n
  | some .attendant, some .outOfService => s.settleLocker n .outOfService
  | _, _ => s.settleHeld n

/-- R40: CLEAR FAULT naming a locker. -/
def Station.takeClearLocker (n : Nat) (s : Station) : Station × Answer :=
  match s.locker? n with
  | none => s.refusedByState
  | some l => if l.state = .jammed then Station.done (s.settleJam l) else s.refusedByState

def execClearFaultLocker (o : OrderFrame) (s : State) : Result :=
  performOrder (.clearFaultLocker o) 8 o
    (Station.testOrder o 2 awayOutsideRun (decide (paramByte o 0 = 0)) (namesLocker (paramByte o 1).toNat)
      (Station.takeClearLocker (paramByte o 1).toNat)) s

/-! ### Orders on cabins (R105, R106) -/

/-- The record's presence field is CONFIRMED. -/
def Station.cabinTaken (s : Station) (n : Nat) : Bool :=
  decide ((s.cabin? n).map (·.presence) = some .confirmed)

/-- R105, R106: a cabin comes back into use: OCCUPIED with no band where presence is CONFIRMED, and released
elsewhere. -/
def Station.cabinBack (n : Nat) (s : Station) : Station :=
  if s.cabinTaken n then s.occupyCabin n none else s.releaseCabin n

/-- R105: CABIN SERVICE off. -/
def Station.takeCabinOff (n : Nat) (s : Station) : Station × Answer :=
  match s.cabinState n with
  | some .free =>
    Station.done ((s.changeCabin n fun c => c.cleared .outOfService).setLatchTarget n none)
  | some .outOfService => s.done
  | _ => s.refusedByState

def execCabinServiceOff (o : OrderFrame) (s : State) : Result :=
  performOrder (.cabinServiceOff o) 7 o
    (Station.testOrder o 2 awayOutsideRun (decide (paramByte o 1 = 0)) (namesCabin (paramByte o 0).toNat)
      (Station.takeCabinOff (paramByte o 0).toNat)) s

/-- R105: CABIN SERVICE on. -/
def Station.takeCabinOn (n : Nat) (s : Station) : Station × Answer :=
  match s.cabinState n with
  | some .outOfService => Station.done (s.cabinBack n)
  | some .free => s.done
  | _ => s.refusedByState

def execCabinServiceOn (o : OrderFrame) (s : State) : Result :=
  performOrder (.cabinServiceOn o) 7 o
    (Station.testOrder o 2 awayOutsideRun (decide (paramByte o 1 = 1)) (namesCabin (paramByte o 0).toNat)
      (Station.takeCabinOn (paramByte o 0).toNat)) s

/-- R106: CLEAR FAULT naming a cabin. -/
def Station.takeClearCabin (n : Nat) (s : Station) : Station × Answer :=
  match s.cabinState n with
  | some .fault => Station.done (s.cabinBack n)
  | _ => s.refusedByState

def execClearFaultCabin (o : OrderFrame) (s : State) : Result :=
  performOrder (.clearFaultCabin o) 8 o
    (Station.testOrder o 2 awayOutsideRun (decide (paramByte o 0 = 1)) (namesCabin (paramByte o 1).toNat)
      (Station.takeClearCabin (paramByte o 1).toNat)) s

/-! ### A drive group (R156) -/

/-- A fault latch with the bit of a group cleared. -/
def clearGroup (g : Nat) (latches : BitVec 4) : BitVec 4 := latches &&& ~~~((1 : BitVec 4) <<< g)

/-- R156: CLEAR FAULT naming a drive group. -/
def Station.takeClearGroup (g : Nat) (s : Station) : Station × Answer :=
  if s.drive.inputs.getLsbD g then (s, .plain .refusedFaultActive)
  else if s.faulted g then Station.done { s with drive.latches := clearGroup g s.drive.latches }.grantTest
  else s.done

def execClearFaultGroup (o : OrderFrame) (s : State) : Result :=
  performOrder (.clearFaultGroup o) 8 o
    (Station.testOrder o 2 awayOutsideRun (decide (paramByte o 0 = 2))
      (fun _ => (paramByte o 1).toNat ≤ 3) (Station.takeClearGroup (paramByte o 1).toNat)) s

/-! ### READ COUNTERS (R186) -/

/-- R186: page 0 takes the snapshot, sets taps since read to 0 (R14) and answers from the snapshot. -/
def Station.takeSnapshot (s : Station) : Station × Answer :=
  let k := s.counters
  ({ s with orders.snapshot := k, taps.sinceRead := 0 },
    .parts [fourBytes k.accepted ++ twoBytes k.refused, twoBytes k.sinceRead])

def execTakeCountersSnapshot (o : OrderFrame) (s : State) : Result :=
  performOrder (.takeCountersSnapshot o) 9 o
    (Station.testOrder o 1 neverAway (decide (paramByte o 0 = 0)) namesNothing Station.takeSnapshot) s

/-- R186: pages 1 and 2 read the snapshot as it stands. Page 2 gives the start cause, the warm-start count and
the drive status live. -/
def Station.readCounterPage (page : Byte) (s : Station) : Station × Answer :=
  let k := s.orders.snapshot
  if page = 1 then
    (s, .parts [twoBytes k.confirmed ++ twoBytes k.yielded ++ twoBytes k.failed, twoBytes k.doubles])
  else
    (s, .parts
      [twoBytes k.jams ++ twoBytes k.forcedDoors ++ twoBytes k.framesLost,
        twoBytes k.spoilsDriven ++ twoBytes k.missed ++
          [s.restart.cause.code, s.restart.warmStarts, driveStatus s.drive.latches s.restart.holdDown]])

def execReadCounters (o : OrderFrame) (s : State) : Result :=
  performOrder (.readCounters o) 9 o
    (Station.testOrder o 1 neverAway (decide (paramByte o 0 = 1) || decide (paramByte o 0 = 2)) namesNothing
      (Station.readCounterPage (paramByte o 0))) s

/-! ### READ LOCKER (R187) -/

/-- R187, part 0. -/
def Station.lockerPart0 (s : Station) (l : Locker) : List Byte :=
  [l.state.code, Size.code l.size,
    levelsByte (!s.doorClosed l.number) (!s.boltEngaged l.number) l.forced] ++
  twoBytes l.wear ++ [purposeCode l.purpose, returnCode l.returnState]

/-- The claim of a CLAIMING locker. -/
def Station.claimFor (s : Station) (l : Locker) : Option Claim :=
  if l.state = .claiming then s.claimAt l.number else none

/-- R187, part 1. -/
def Station.lockerPart1 (s : Station) (l : Locker) : List Byte :=
  let output := lockerOutput l.number
  [phaseCode (s.request? output), attemptCode (s.request? output), (s.outputLevel output).code] ++
  match s.holdingAt l.number, s.claimFor l with
  | some h, _ => [holdingFlags h, h.openings] ++ twoBytes h.start
  | none, some c => [claimStateCode c.state, c.joined, flagCode c.insist, 0]
  | none, none => [0, 0, 0, 0]

/-- R187, part 2. -/
def Station.lockerPart2 (s : Station) (l : Locker) : List Byte :=
  match s.holdingAt l.number, s.claimFor l with
  | some h, _ => partyBytes h.party ++ threeBytes h.serial
  | none, some c => partyBytes c.party ++ threeBytes c.serial
  | none, none => [0, 0, 0, 0, 0, 0, 0]

/-- R187: READ LOCKER. -/
def Station.takeReadLocker (n : Nat) (s : Station) : Station × Answer :=
  match s.locker? n with
  | none => s.refusedByState
  | some l => (s, .parts [s.lockerPart0 l, s.lockerPart1 l, s.lockerPart2 l])

def execReadLocker (o : OrderFrame) (s : State) : Result :=
  performOrder (.readLocker o) 10 o
    (Station.testOrder o 1 awayInUnset true (namesLocker (paramByte o 0).toNat)
      (Station.takeReadLocker (paramByte o 0).toNat)) s

/-! ### READ CABINS (R188) -/

/-- R188, page 0. -/
def Station.cabinsPage (s : Station) : List Byte :=
  [oneByte s.orders.setup.cabinCount, oneByte s.cabins.queue.length, oneByte s.cabinsInService] ++
  twoBytes (BitVec.ofNat 16 s.cabins.dwell) ++
  [oneByte s.freeCabins, flagCode (s.cabins.cabins.any (·.overstay))]

/-- R188, part 0 of a cabin's page. -/
def Station.cabinPart0 (s : Station) (c : Cabin) : List Byte :=
  let r := s.request? (cabinOutput c.number)
  [c.state.code, latchPositionCode c.latchPosition, latchTargetCode c.latchTarget, c.presence.code,
    cabinFlags c, phaseCode r, attemptCode r]

/-- The position of an entry: 1 plus the number of entries ahead of it (R97). -/
def Station.positionOf (s : Station) (serial : BitVec 24) : Nat :=
  (s.cabins.queue.takeWhile fun e => decide (e.serial ≠ serial)).length + 1

/-- R188, part 1 of a cabin's page: the elapsed seconds saturate in the report alone (notes/assumptions/37.md). -/
def Station.cabinPart1 (s : Station) (c : Cabin) : List Byte :=
  threeBytes (c.occupant.getD 0) ++
  twoBytes (if c.state = .occupied then c.seconds else 0) ++
  [match c.reservedFor with
    | some serial => oneByte (s.positionOf serial)
    | none => 0,
   (s.outputLevel (cabinOutput c.number)).code]

/-- R188, part 0 of a queue page. -/
def QueueEntry.part0 (e : QueueEntry) : List Byte := threeBytes e.serial ++ partyBytes e.party

/-- R188: the seconds from the cabin clock to a grace end, modulo 65 536 as R86 reads the clock; free once the clock
has passed the end (notes/assumptions/44.md). -/
def secondsToGrace (graceEnd clock : BitVec 16) : BitVec 16 :=
  if (graceEnd - clock).msb then Config.pastGrace graceEnd clock else graceEnd - clock

/-- R188, part 1 of a queue page; the seconds since joining saturate as the elapsed seconds do
(notes/assumptions/37.md). -/
def Station.entryPart1 (s : Station) (e : QueueEntry) : List Byte :=
  [entryStateCode e.state,
   match e.state with
    | .reserved c => oneByte c
    | .waiting => 0] ++
  twoBytes e.seconds ++
  twoBytes (match e.graceEnd with
    | some g => secondsToGrace g s.cabins.clock
    | none => 0)

/-- R188: READ CABINS by its page. -/
def Station.takeReadCabins (page : Nat) (s : Station) : Station × Answer :=
  if page = 0 then (s, .parts [s.cabinsPage])
  else if page ≤ 8 then
    match s.cabin? page with
    | none => s.refusedByState
    | some c => (s, .parts [s.cabinPart0 c, s.cabinPart1 c])
  else
    match s.cabins.queue[page - 9]? with
    | none => s.refusedByState
    | some e => (s, .parts [e.part0, s.entryPart1 e])

/-- R188: a cabin page beyond the cabin count names no cabin. -/
def namesCabinPage (page : Nat) (s : Station) : Bool :=
  decide (page = 0) || decide (9 ≤ page) || namesCabin page s

def execReadCabins (o : OrderFrame) (s : State) : Result :=
  performOrder (.readCabins o) 11 o
    (Station.testOrder o 1 awayInUnset (decide ((paramByte o 0).toNat ≤ 24))
      (namesCabinPage (paramByte o 0).toNat) (Station.takeReadCabins (paramByte o 0).toNat)) s

/-! ### FIND PARTY (R189) -/

/-- The party key an order carries. -/
def orderParty (o : OrderFrame) : Option PartyKey :=
  (partyKindOf (paramByte o 0)).map fun k =>
    ⟨k, fromThree (paramByte o 1) (paramByte o 2) (paramByte o 3)⟩

/-- The state code of a locker. -/
def Station.stateCode (s : Station) (n : Nat) : Byte :=
  match s.lockerState n with
  | some st => st.code
  | none => 0

/-- R189: a holder of the party answers; no other station does. -/
def Station.takeFindParty (o : OrderFrame) (s : Station) : Station × Answer :=
  match (orderParty o).bind s.holdingOf with
  | none => (s, .silent)
  | some h =>
    (s, .parts
      [[oneByte h.locker, s.stateCode h.locker, holdingFlags h, h.openings] ++ threeBytes h.serial])

def execFindParty (o : OrderFrame) (s : State) : Result :=
  performOrder (.findParty o) 12 o
    (Station.testOrder o 4 silentInUnset true namesNothing (Station.takeFindParty o)) s

/-! ### RESTART (R190) -/

/-- R190: the wait for the warm start, on the REPORT that is about to be queued. -/
def Station.takeRestart (s : Station) : Station × Answer :=
  Station.done
    { s with orders.restartWait := some { frame := s.link.nextFrame, deadline := s.now + 500 } }

def execRestart (o : OrderFrame) (s : State) : Result :=
  performOrder (.restart o) 13 o (Station.testOrder o 0 neverAway true namesNothing Station.takeRestart) s

/-- R190: 500 ms have passed from the order: the warm start begins. -/
def Station.restartWaitEnd (s : Station) : Station :=
  match s.orders.restartWait with
  | none => s
  | some w => (s.reach w.deadline).beginOrdered

def execRestartWaitExpiry (s : State) : Result :=
  performFinish .restartWaitExpiry (whenLive Station.restartWaitEnd) s

end Sys2Proof.Machine
end

