-- ==== Sys2Proof/Machine/StartEvents.lean ====
section
/-!
DEFINITION. The meanings of the rows of starts and recovery (chapter 12) and of the scanner's own rows
(chapter 9): RECOVERY_WINDOW_EXPIRY, LOGIC_SUPPLY_LOW, LOGIC_SUPPLY_LOST, LOGIC_SUPPLY_RESTORED,
RESET_LINE_LOW, RESET_LINE_HIGH, WARM_START_END, FILTER_LOAD_END and SENSE_SAMPLE.
-/

namespace Sys2Proof.Machine

open Sys2Proof

/-! ### The recovery window (R197) -/

/-- R193, R197: the window expires, and the mode becomes RUN. -/
def Station.windowClosed (s : Station) : Station :=
  match s.restart.windowEnd with
  | none => s
  | some t =>
    let s := s.reach t
    { s with restart.mode := .run, restart.windowEnd := none }

def execRecoveryWindowExpiry (s : State) : Result :=
  perform .recoveryWindowExpiry (whenLive Station.windowClosed) s

/-! ### The causes of a start (R195) -/

/-- R195: a cause arrives: a warm start begins, or begins again. Without retention the part waits for the
supply. -/
def Station.causeArrives (cause : StartCause) (s : Station) : Station :=
  if s.restart.phase = .off then s else s.beginWarm cause

/-- R195: the logic supply falls below 2.9 V. -/
def execLogicSupplyLow (s : State) : Result :=
  perform .logicSupplyLow
    (fun t => { t with restart.logicSupply := .low }.causeArrives .supplyLow) s

/-- R195: the logic supply falls below 1.8 V: retention is lost, and the next start is a cold start. -/
def execLogicSupplyLost (s : State) : Result :=
  perform .logicSupplyLost
    (fun t =>
      let t := t.loseVolatile
      { t with restart.logicSupply := .lost, restart.phase := .off }) s

/-- R195: the logic supply rises above 3.0 V: a cold start after retention was lost, or the end of the cause of
a warm start. -/
def Station.supplyRestored (strap : BitVec 5) (zone : BitVec 3) (s : Station) : Station :=
  let s :=
    { s with restart.logicSupply := .normal, restart.strapPins := strap, restart.zonePins := zone }
  if s.restart.phase = .off then s.coldStart .powerOn strap zone else s.endCause

def execLogicSupplyRestored (strap : BitVec 5) (zone : BitVec 3) (s : State) : Result :=
  performFinish (.logicSupplyRestored strap zone) (Station.supplyRestored strap zone) s

/-- R195: the reset line goes low. -/
def execResetLineLow (s : State) : Result :=
  perform .resetLineLow
    (fun t => { t with restart.resetLineLow := true }.causeArrives .resetLine) s

/-- R195: the reset line returns high. -/
def execResetLineHigh (s : State) : Result :=
  perform .resetLineHigh (fun t => { t with restart.resetLineLow := false }.endCause) s

/-! ### The end of a warm start (R196) -/

/-- R196: the retention check is computed afresh and compared with the one kept: equal, the warm start completes;
different, a cold start is made. `damage` holds the bits by which what happened to the retained state during the
start changes the check computed afresh (notes/assumptions/8.md). -/
def Station.warmEnd (strap : BitVec 5) (zone : BitVec 3) (damage : BitVec 16) (s : Station) : Station :=
  match s.restart.phase with
  | .warm cause =>
    if s.causeEnded cause then
      let s := { s with restart.strapPins := strap, restart.zonePins := zone }
      if s.retentionCheck ^^^ damage = s.keptCheck then s.completeWarm cause strap zone
      else s.coldStart .retentionBad strap zone
    else s
  | .running => s
  | .off => s

def execWarmStartEnd (strap : BitVec 5) (zone : BitVec 3) (damage : BitVec 16) (s : State) : Result :=
  performFinish (.warmStartEnd strap zone damage) (Station.warmEnd strap zone damage) s

/-! ### The filters (R159 to R165) -/

/-- The bits set in at least three of four samples. -/
def atLeastThree {w : Nat} (a b c d : BitVec w) : BitVec w :=
  (a &&& b &&& c) ||| (a &&& b &&& d) ||| (a &&& c &&& d) ||| (b &&& c &&& d)

/-- R165: a loaded level: that of at least three of the four samples, and otherwise that of the last, `a`. -/
def loadedBits {w : Nat} (a b c d : BitVec w) : BitVec w :=
  atLeastThree a b c d ||| (a &&& (b ||| c ||| d))

/-- R160: a filtered level after a sample: it changes when at least three of the four samples show the
opposite. -/
def filteredBits {w : Nat} (level a b c d : BitVec w) : BitVec w :=
  atLeastThree a b c d ||| (level &&& ~~~atLeastThree (~~~a) (~~~b) (~~~c) (~~~d))

/-- R165: the levels loaded from a history of four samples, the newest first. -/
def loadedLevels (a b c d : Levels) : Levels :=
  { door := loadedBits a.door b.door c.door d.door
    bolt := loadedBits a.bolt b.bolt c.bolt d.bolt
    latch := loadedBits a.latch b.latch c.latch d.latch
    pad := loadedBits a.pad b.pad c.pad d.pad }

/-- R160: the filtered levels brought up to date from a history of four samples. -/
def filteredLevels (level a b c d : Levels) : Levels :=
  { door := filteredBits level.door a.door b.door c.door d.door
    bolt := filteredBits level.bolt a.bolt b.bolt c.bolt d.bolt
    latch := filteredBits level.latch a.latch b.latch c.latch d.latch
    pad := filteredBits level.pad a.pad b.pad c.pad d.pad }

/-- R165: each pad whose loaded level is present is CONFIRMED, and each other pad CLEAR, with no timer. -/
def loadedPad (level : Levels) (p : Pad) : Pad :=
  { p with
    presence := if level.pad.getLsbD (p.number - 1) then .confirmed else .clear
    confirmAt := none }

/-! ### The settlement of the cabins after a warm start (R108) -/

/-- R108: the loaded levels reach the cabin's record. LATCH_MOVING is clear, since the drive queue was lost, unless
a request has been made since. -/
def Station.loadCabin (s : Station) (c : Cabin) : Cabin :=
  { c with
    presence := s.presence c.number
    latchPosition := s.latchLevel c.number
    latchMoving := (s.request? (cabinOutput c.number)).isSome }

/-- DESIGN CHOICE: a cabin that an order or a serving step has taken since the end of the warm start keeps its state:
its loaded pad is taken as an event of that moment, and its latch target is compared with the loaded position
(notes/assumptions/12.md). -/
def Station.resumeCabin (n : Nat) (s : Station) : Station :=
  (if s.presence n = .confirmed then s.takePresence n else s.startVacate n).compareLatch n

/-- R108: cabin n is settled from the state before the warm start and its loaded pad and latch levels. -/
def Station.settleCabin (s : Station) (n : Nat) : Station :=
  match s.cabin? n with
  | none => s
  | some c =>
    if !c.unsettled then s.resumeCabin n
    else
      let s := s.changeCabin n fun d => { d with unsettled := false }
      let present := decide (s.presence n = .confirmed)
      match c.state with
      | .outOfService => s
      | .fault => s
      | .occupied =>
        if present then (s.changeCabin n fun d => { d with clearMoment := none }).setLatchTarget n none
        else s.freeCabin n
      | .free => if present then s.occupyCabin n none else s.freeCabin n
      | .reserved => if present then s.occupyCabin n none else s.freeCabin n
      | .admitting => if present then s.occupyCabin n none else s.freeCabin n

/-- R108: every cabin, in number order (notes/assumptions/40.md). -/
def Station.settleCabins (s : Station) : Station :=
  let s := { s with cabins.cabins := s.cabins.cabins.map s.loadCabin }
  s.cabins.cabins.foldl (fun t c => t.settleCabin c.number) s

/-- R165: the owners settle their records once the filter load after a warm start has ended. DESIGN CHOICE: no
serving step is made, as R108 says, for an entry that joined the queue during the load either
(notes/assumptions/12.md). -/
def Station.settleStart (s : Station) : Station :=
  if s.restart.settleDue then
    let s := { s with restart.settleDue := false }
    (s.lockers.lockers.foldl Station.settleWarm s).settleCabins
  else s

/-! ### The load and the samples (R159 to R165) -/

/-- R165: the load ends: levels are taken as found, and after a warm start the owners settle their records. DESIGN
CHOICE: records created before the load of a cold start has ended are not set again by it; R85 and R165 take the load to
be over by then (notes/assumptions/43.md). -/
def Station.loadFilters (s : Station) : Station :=
  match s.scan.loaded, s.scan.history with
  | false, [a, b, c, d] =>
    let level := loadedLevels a b c d
    { s with
      scan.level := level
      scan.loaded := true
      scan.pads := s.scan.pads.map (loadedPad level) }.settleStart
  | _, _ => s

def execFilterLoadEnd (s : State) : Result :=
  perform .filterLoadEnd (whenLive Station.loadFilters) s

/-- The events of one input kind: for each record 1 to `count` whose bit has changed, the event of its new
level. -/
def changes {w : Nat} (count : Nat) (before after : BitVec w) (event : Nat → Bool → Instr) : List Instr :=
  (List.range count).filterMap fun i =>
    if before.getLsbD i = after.getLsbD i then none else some (event (i + 1) (after.getLsbD i))

/-- R161 to R164: the events of one sample instant. Doors and bolts of lockers without a record give none, and
neither do latches of cabins without one; every pad is tracked. DESIGN CHOICE: of one instant, doors are taken first,
then bolts, latches and pads, each kind by number; R161 allows any order (notes/assumptions/41.md). -/
def Station.instantEvents (s : Station) (after : Levels) : List Instr :=
  let before := s.scan.level
  let lockers := s.lockers.lockers.length
  let cabins := s.cabins.cabins.length
  changes lockers before.door after.door (fun n closed => if closed then .doorClosed n else .doorOpened n) ++
  changes lockers before.bolt after.bolt Instr.boltEvent ++
  changes cabins before.latch after.latch Instr.latchEvent ++
  changes 8 before.pad after.pad (fun c present => if present then .presenceSeen c else .presenceClear c)

/-- The owner of an event of the scanner takes it (R162 to R164). -/
def Station.takeInstant (s : Station) (event : Instr) : Station :=
  match event with
  | .doorOpened n => s.doorOpened n
  | .doorClosed n => s.doorShut n
  | .boltEvent n engaged => s.boltMoved n engaged
  | .latchEvent c latched => s.latchMoved c latched
  | .presenceSeen c => s.presenceSeen c
  | .presenceClear c => s.presenceClear c
  | _ => s

/-- R160, R161: once loaded, every filtered level is brought up to date, and then the owners take the events of the
instant, each reading the levels of the instant. -/
def Station.filterSample (s : Station) : Station :=
  match s.scan.history with
  | [a, b, c, d] =>
    let after := filteredLevels s.scan.level a b c d
    (s.instantEvents after).foldl Station.takeInstant { s with scan.level := after }
  | _ => s

/-- R165: a load whose four samples are there ends before the next sample is taken, wherever its end still waits. -/
def Station.finishLoad (s : Station) : Station :=
  if !s.scan.loaded && s.scan.history.length == 4 then (s.take .filterLoadEnd).loadFilters else s

/-- R159, R160, R165: a sample instant: the new sample enters the history and the oldest leaves it. While the
filters are being loaded, the fourth sample completes the load. -/
def Station.sample (levels : Levels) (s : Station) : Station :=
  let s := s.finishLoad
  let s := s.reach s.scan.sampleDue
  let s :=
    { s with
      scan.switches := levels
      scan.history := (levels :: s.scan.history).take 4
      scan.sampleDue := s.scan.sampleDue + s.orders.setup.filterInterval }
  if s.scan.loaded then s.filterSample
  else if s.scan.history.length = 4 then s.deliver .filterLoadEnd
  else s

def execSenseSample (levels : Levels) (s : State) : Result :=
  perform (.senseSample levels) (whenLive (Station.sample levels)) s

end Sys2Proof.Machine
end

