-- ==== Sys2Proof/Machine/TallyEvents.lean ====
section
/-!
DEFINITION. The meanings of TALLY_TIMER (R109), NEIGHBOUR_STALE (R115) and REDIRECT_RECORD_EXPIRY (R78).
-/

namespace Sys2Proof.Machine

open Sys2Proof

/-- R109: the 2 s timer expires: a TALLY is built and queued if the link is UP, and the timer restarts. -/
def Station.tallyTick (s : Station) : Station :=
  match s.tally.timer with
  | none => s
  | some t =>
    let s := (s.reach t).queueTally
    { s with tally.timer := some (t + 2000) }

def execTallyTimer (s : State) : Result := performFinish .tallyTimer (whenLive Station.tallyTick) s

/-- The entry of a neighbour. -/
def Station.neighbour? (s : Station) (station : Nat) : Option Neighbour :=
  s.tally.neighbours.find? fun n => decide (n.station = station)

/-- R115: the age of the entry reaches 7 s: the entry becomes stale and keeps its figures. -/
def Station.ageNeighbour (station : Nat) (s : Station) : Station :=
  match s.neighbour? station with
  | none => s
  | some n =>
    if n.stale then s
    else
      let s := s.reach (n.heardAt + 7000)
      { s with
        tally.neighbours :=
          updateWhere (fun m => decide (m.station = station)) (fun m => { m with aged := true })
            s.tally.neighbours }

def execNeighbourStale (station : Nat) (s : State) : Result :=
  perform (.neighbourStale station) (whenLive (Station.ageNeighbour station)) s

/-- R78: 30 s have passed since the record's moment: the record is removed. DESIGN CHOICE: the removal is an event of
that very millisecond, so a tap at exactly 30 s is an insist tap where it is taken before the removal and a redirect
where it is taken after it; R78 and R79 do not order the two (notes/assumptions/42.md). -/
def Station.expireRedirect (serial : BitVec 24) (s : Station) : Station :=
  match s.redirectOf serial with
  | none => s
  | some r => (s.reach (r.moment + 30000)).removeRedirect serial

def execRedirectRecordExpiry (serial : BitVec 24) (s : State) : Result :=
  perform (.redirectRecordExpiry serial) (whenLive (Station.expireRedirect serial)) s

end Sys2Proof.Machine
end

