-- ==== Sys2Proof/Machine/Taps.lean ====
section
/-!
DEFINITION. The meanings of the reader and tap rows: READER_BREAK, READER_CHARACTER,
READER_CHARACTER_TIMEOUT (chapter 1), LOCKER_TAP (2.5) and CABIN_TAP (5.6).
-/

namespace Sys2Proof.Machine

open Sys2Proof

/-! ### The receivers (R1, R2) -/

/-- R14: taps refused rises. DESIGN CHOICE: a partial record discarded in STRAP_FAULT, where R192 leaves the retained
counter untouched, is counted as R1 says when the station leaves that mode (notes/assumptions/15.md). -/
def Station.refuseTap (s : Station) : Station :=
  if s.restart.mode = .strapFault then { s with taps.heldRefused := satInc s.taps.heldRefused }
  else { s with taps.refused := satInc s.taps.refused }

/-- The receivers run in every station mode, STRAP_FAULT included (R2), but not during a start. -/
def whenReceiving (f : Station → Station) (s : Station) : Station :=
  if s.restart.phase = .running then f s else s

/-- R1: a break opens a new record; a partial record before it is discarded and counted once. -/
def Station.readerBreak (r : Reader) (s : Station) : Station :=
  let t := s.changeInput r fun i => { i with record := some [], gapEnd := none }
  if ((s.input? r).bind (·.record)).isSome then t.refuseTap else t

def execReaderBreak (r : Reader) (s : State) : Result :=
  perform (.readerBreak r) (whenReceiving (Station.readerBreak r)) s

/-- R1: the partial record is discarded and counted, and the receiver waits for a break. -/
def Station.discardRecord (r : Reader) (s : Station) : Station :=
  (s.changeInput r fun i => { i with record := none, gapEnd := none }).refuseTap

/-! ### Check, guard and admission (R3 to R10) -/

/-- R4: the record is a repeat: the entry holds its serial, with a time no more than 1 000 ms before. -/
def isRepeat (guard : Option Sighting) (serial : BitVec 24) (time : Moment) : Bool :=
  match guard with
  | none => false
  | some g => decide (g.serial = serial) && decide (time ≤ g.time + 1000)

/-- R7: a serial of 0 or 16 777 215, or another day's code. -/
def bandNotValid (bytes : List Byte) (day : Byte) : Bool :=
  decide (recordSerial bytes = 0) || decide (recordSerial bytes = BitVec.allOnes 24) ||
    decide (recordDay bytes ≠ day)

/-- R10 to R12, R14: the tap is counted and handed to its owner. -/
def Station.handTap (r : Reader) (tap : Tap) (s : Station) : Station :=
  let s :=
    { s with
      taps.accepted := s.taps.accepted + 1
      taps.sinceRead := satInc s.taps.sinceRead }
  match r with
  | .bank => s.deliver (.lockerTap tap)
  | .cabin n => s.deliver (.cabinTap n tap)

/-- R6, R7: a new presentation is admitted or refused by the station mode, its serial and its day code. -/
def Station.present (r : Reader) (bytes : List Byte) (s : Station) : Station :=
  match s.restart.mode with
  | .strapFault => s
  | .unset => (s.post .notReady).refuseTap
  | .recovering => (s.post .notReady).refuseTap
  | .run =>
    if bandNotValid bytes s.orders.setup.dayCode then (s.post .bandNotValid).refuseTap
    else s.handTap r (recordTap bytes s.now)

/-- R4: the guard entry takes the record's serial and sighting time: for a repeat that moves its time
forward, for a new presentation it overwrites the entry. -/
def Station.sight (r : Reader) (bytes : List Byte) (s : Station) : Station :=
  s.changeInput r fun i => { i with guard := some { serial := recordSerial bytes, time := s.now } }

/-- R2 to R4: a complete record is discarded in STRAP_FAULT, refused on a bad check, discarded as a repeat, or
goes on as a new presentation. -/
def Station.recordComplete (r : Reader) (bytes : List Byte) (s : Station) : Station :=
  if s.restart.mode = .strapFault then s
  else if recordCheck bytes ≠ recordByte bytes 7 then s.refuseTap
  else if isRepeat ((s.input? r).bind (·.guard)) (recordSerial bytes) s.now then s.sight r bytes
  else (s.sight r bytes).present r bytes

/-- R1: a character enters the open record of its input; the eighth completes the record. A framing error
discards the partial record. Without an open record it is ignored. -/
def Station.readerCharacter (r : Reader) (char : Byte) (stopIdle : Bool) (s : Station) : Station :=
  match (s.input? r).bind (·.record) with
  | none => s
  | some bytes =>
    if !stopIdle then s.discardRecord r
    else if bytes.length < 7 then
      s.changeInput r fun i => { i with record := some (bytes ++ [char]), gapEnd := some (s.now + 20) }
    else
      (s.changeInput r fun i => { i with record := none, gapEnd := none }).recordComplete r (bytes ++ [char])

def execReaderCharacter (r : Reader) (char : Byte) (stopIdle : Bool) (s : State) : Result :=
  perform (.readerCharacter r char stopIdle) (whenReceiving (Station.readerCharacter r char stopIdle)) s

/-- R1: more than 20 ms have passed within an open record. -/
def Station.characterTimeout (r : Reader) (s : Station) : Station :=
  match (s.input? r).bind (·.gapEnd) with
  | none => s
  | some t => (s.reach (t + 1)).discardRecord r

def execReaderCharacterTimeout (r : Reader) (s : State) : Result :=
  perform (.readerCharacterTimeout r) (whenReceiving (Station.characterTimeout r)) s

/-! ### A tap at the bank reader (R24 to R31) -/

/-- R25: a retrieval. -/
def Station.retrieve (n : Nat) (s : Station) : Station :=
  ((s.unboltLocker n .retrieve .locked none).post (.locker n)).placeCursor n

/-- R26: a release. -/
def Station.release (n : Nat) (s : Station) : Station :=
  ((s.endHoldingAt n).freeLocker n).post (.lockerReleased n)

/-- R24, step 1: the outcome of a tap by a party whose holding stands on locker n. -/
def Station.tapHeld (n : Nat) (s : Station) : Station :=
  match s.lockerState n with
  | some .locked => s.retrieve n
  | some .opened => s.release n
  | some .unbolting => s.post (.lockerOpenDoor n)
  | some .unbolted => s.post (.lockerOpenDoor n)
  | some .unsecured => s.post (.lockerOpenDoor n)
  | some .jammed => s.post .seeAttendant
  | _ => s

/-- R28, R60: a tap of a party with a claim. -/
def Station.tapClaimed (c : Claim) (s : Station) : Station :=
  (s.changeClaim c.party fun c => { c with joined := satInc c.joined }).post (.lockerOpening c.locker)

/-- R24, steps 4 to 6: a full claims table, the locker choice, guidance, a new claim. -/
def Station.tapNew (tap : Tap) (insist : Bool) (s : Station) : Station :=
  if 4 ≤ s.claims.claims.length then s.post .pleaseWait
  else
    match s.chooseLocker tap.size with
    | none => s.post (s.guidance tap.size)
    | some l => s.createClaim tap l.number insist

/-- R29, R79: a redirect: the message, the touch and the redirect record. -/
def Station.redirectTap (tap : Tap) (e : DirectoryEntry) (s : Station) : Station :=
  ((s.post (.goToBank e.holder e.locker)).touchEntry tap.party).recordRedirect tap.serial tap.time

/-- R29, R79: an insist tap: the entry is marked doubtful and the redirect record removed; the tap goes on. -/
def Station.insistTap (tap : Tap) (s : Station) : Station :=
  ((s.markDoubtful tap.party).removeRedirect tap.serial).tapNew tap true

/-- R24: the steps in order. -/
def Station.lockerTap (tap : Tap) (s : Station) : Station :=
  match s.holdingOf tap.party with
  | some h => s.tapHeld h.locker
  | none =>
    match s.claimOf tap.party with
    | some c => s.tapClaimed c
    | none =>
      match s.lookup tap with
      | .miss => s.tapNew tap false
      | .redirect e => s.redirectTap tap e
      | .insist => s.insistTap tap

def execLockerTap (tap : Tap) (s : State) : Result :=
  performFinish (.lockerTap tap)
    (fun t => if t.serving then (t.reach tap.time).lockerTap tap else t) s

/-! ### A tap at a cabin reader (R101 to R104) -/

/-- The cabin that is RESERVED or ADMITTING at this reader for this band. -/
def Station.reservedHere (s : Station) (n : Nat) (serial : BitVec 24) : Option Cabin :=
  match s.cabin? n with
  | none => none
  | some c =>
    if (decide (c.state = .reserved) || decide (c.state = .admitting)) && decide (c.reservedFor = some serial)
    then some c
    else none

/-- R102: the reserved band taps its cabin. -/
def Station.admittingTap (c : Cabin) (s : Station) : Station :=
  if c.state = .admitting then s.post (.cabinEnter c.number)
  else
    let s :=
      s.changeCabin c.number fun d =>
        { d with state := .admitting, graceAt := none, admitAt := some (s.now + 30000) }
    let s :=
      match c.reservedFor with
      | some serial => s.changeEntry serial fun e => { e with graceEnd := none }
      | none => s
    (s.setLatchTarget c.number (some .unlatched)).post (.cabinEnter c.number)

/-- The number of entries ahead of a band in the queue (R97). -/
def Station.ahead (s : Station) (serial : BitVec 24) : Nat :=
  (s.cabins.queue.takeWhile fun e => decide (e.serial ≠ serial)).length

/-- The cabin whose known occupant the band is. -/
def Station.occupiedBy (s : Station) (serial : BitVec 24) : Option Cabin :=
  s.cabins.cabins.find? fun c => decide (c.state = .occupied) && decide (c.occupant = some serial)

/-- R103: the message to a WAITING band with k entries ahead. -/
def Station.waitingMessage (s : Station) (k : Nat) : Text :=
  if s.cabinsInService = 0 then .queueClosed (k + 1)
  else .queueAbout (k + 1) (waitMinutes (s.waitEstimate k))

/-- R104: a new arrival. -/
def Station.newArrival (tap : Tap) (s : Station) : Station :=
  match s.lowestFree with
  | some c => s.post (.cabin c)
  | none =>
    if s.cabinsInService = 0 then s.post .cabinsClosed
    else if 16 ≤ s.cabins.queue.length then
      s.postMessage { first := .cabinQueueFull, second := s.suggestion (s.waitEstimate 16) }
    else
      let k := s.cabins.queue.length
      let w := s.waitEstimate k
      let e : QueueEntry :=
        { serial := tap.serial, party := tap.party, joined := s.cabins.clock, state := .waiting,
          graceEnd := none, seconds := 0 }
      { s with cabins.queue := s.cabins.queue ++ [e] }.postMessage
        { first := .queueAbout (k + 1) (waitMinutes w), second := s.suggestion w }

/-- R101: the cases in order. -/
def Station.cabinTap (n : Nat) (tap : Tap) (s : Station) : Station :=
  match s.reservedHere n tap.serial with
  | some c => s.admittingTap c
  | none =>
    match s.queueEntry tap.serial with
    | some e =>
      match e.state with
      | .reserved c => s.post (.goToCabin c)
      | .waiting => s.post (s.waitingMessage (s.ahead tap.serial))
    | none =>
      match s.occupiedBy tap.serial with
      | some c => s.post (.cabin c.number)
      | none => s.newArrival tap

def execCabinTap (n : Nat) (tap : Tap) (s : State) : Result :=
  perform (.cabinTap n tap) (fun t => if t.serving then (t.reach tap.time).cabinTap n tap else t) s

end Sys2Proof.Machine
end

