-- ==== Sys2Proof/Machine/Dispatch.lean ====
section
/-!
DEFINITION. The meaning of every command: one arm per constructor of Instr, in the order of
spec/opcode_table.json.
-/

namespace Sys2Proof.Machine

open Sys2Proof

def exec (i : Instr) (s : State) : Host.Outcome State Fault Refusal :=
  match i with
  | .readerBreak input => Sys2Proof.Machine.execReaderBreak input s
  | .readerCharacter input char stopIdle => Sys2Proof.Machine.execReaderCharacter input char stopIdle s
  | .readerCharacterTimeout input => Sys2Proof.Machine.execReaderCharacterTimeout input s
  | .lockerTap tap => Sys2Proof.Machine.execLockerTap tap s
  | .cabinTap reader tap => Sys2Proof.Machine.execCabinTap reader tap s
  | .claimSendDeadline party => Sys2Proof.Machine.execClaimSendDeadline party s
  | .claimWindowEnd party => Sys2Proof.Machine.execClaimWindowEnd party s
  | .frameAttemptStart => Sys2Proof.Machine.execFrameAttemptStart s
  | .arbitrationLost => Sys2Proof.Machine.execArbitrationLost s
  | .bitError => Sys2Proof.Machine.execBitError s
  | .ownFrameDelivered => Sys2Proof.Machine.execOwnFrameDelivered s
  | .attemptSpoiled => Sys2Proof.Machine.execAttemptSpoiled s
  | .frameSpoiled bytes check => Sys2Proof.Machine.execFrameSpoiled bytes check s
  | .frameBroken why => Sys2Proof.Machine.execFrameBroken why s
  | .frameDiscarded sender kind content => Sys2Proof.Machine.execFrameDiscarded sender kind content s
  | .heldReceived sender content => Sys2Proof.Machine.execHeldReceived sender content s
  | .yieldReceived sender content => Sys2Proof.Machine.execYieldReceived sender content s
  | .freeReceived sender content => Sys2Proof.Machine.execFreeReceived sender content s
  | .claimReceived sender content => Sys2Proof.Machine.execClaimReceived sender content s
  | .recountReceived sender content => Sys2Proof.Machine.execRecountReceived sender content s
  | .recallReceived sender content => Sys2Proof.Machine.execRecallReceived sender content s
  | .tallyReceived sender content => Sys2Proof.Machine.execTallyReceived sender content s
  | .orderBadCode code order => Sys2Proof.Machine.execOrderBadCode code order s
  | .setupLockers order => Sys2Proof.Machine.execSetupLockers order s
  | .setupCabins order => Sys2Proof.Machine.execSetupCabins order s
  | .setDay order => Sys2Proof.Machine.execSetDay order s
  | .openLocker order => Sys2Proof.Machine.execOpenLocker order s
  | .endHolding order => Sys2Proof.Machine.execEndHolding order s
  | .lockerServiceOff order => Sys2Proof.Machine.execLockerServiceOff order s
  | .lockerServiceOn order => Sys2Proof.Machine.execLockerServiceOn order s
  | .cabinServiceOff order => Sys2Proof.Machine.execCabinServiceOff order s
  | .cabinServiceOn order => Sys2Proof.Machine.execCabinServiceOn order s
  | .clearFaultLocker order => Sys2Proof.Machine.execClearFaultLocker order s
  | .clearFaultCabin order => Sys2Proof.Machine.execClearFaultCabin order s
  | .clearFaultGroup order => Sys2Proof.Machine.execClearFaultGroup order s
  | .takeCountersSnapshot order => Sys2Proof.Machine.execTakeCountersSnapshot order s
  | .readCounters order => Sys2Proof.Machine.execReadCounters order s
  | .readLocker order => Sys2Proof.Machine.execReadLocker order s
  | .readCabins order => Sys2Proof.Machine.execReadCabins order s
  | .findParty order => Sys2Proof.Machine.execFindParty order s
  | .restart order => Sys2Proof.Machine.execRestart order s
  | .restartWaitExpiry => Sys2Proof.Machine.execRestartWaitExpiry s
  | .tallyTimer => Sys2Proof.Machine.execTallyTimer s
  | .neighbourStale station => Sys2Proof.Machine.execNeighbourStale station s
  | .redirectRecordExpiry serial => Sys2Proof.Machine.execRedirectRecordExpiry serial s
  | .dominantWatchExpiry => Sys2Proof.Machine.execDominantWatchExpiry s
  | .recessiveSpan => Sys2Proof.Machine.execRecessiveSpan s
  | .minuteTick => Sys2Proof.Machine.execMinuteTick s
  | .grantWaitExpiry locker => Sys2Proof.Machine.execGrantWaitExpiry locker s
  | .doorWaitExpiry locker => Sys2Proof.Machine.execDoorWaitExpiry locker s
  | .boltWaitExpiry locker => Sys2Proof.Machine.execBoltWaitExpiry locker s
  | .doorOpened locker => Sys2Proof.Machine.execDoorOpened locker s
  | .doorClosed locker => Sys2Proof.Machine.execDoorClosed locker s
  | .boltEvent locker engaged => Sys2Proof.Machine.execBoltEvent locker engaged s
  | .pullEnd output => Sys2Proof.Machine.execPullEnd output s
  | .jamRestEnd output => Sys2Proof.Machine.execJamRestEnd output s
  | .slotRestEnd slot => Sys2Proof.Machine.execSlotRestEnd slot s
  | .driveFault group active => Sys2Proof.Machine.execDriveFault group active s
  | .driveSupplyLow => Sys2Proof.Machine.execDriveSupplyLow s
  | .driveSupplyRise => Sys2Proof.Machine.execDriveSupplyRise s
  | .driveSupplySag => Sys2Proof.Machine.execDriveSupplySag s
  | .holdDownRelease => Sys2Proof.Machine.execHoldDownRelease s
  | .cabinClockTick => Sys2Proof.Machine.execCabinClockTick s
  | .graceExpiry cabin => Sys2Proof.Machine.execGraceExpiry cabin s
  | .admitTimerExpiry cabin => Sys2Proof.Machine.execAdmitTimerExpiry cabin s
  | .vacateTimerExpiry cabin => Sys2Proof.Machine.execVacateTimerExpiry cabin s
  | .presenceSeen cabin => Sys2Proof.Machine.execPresenceSeen cabin s
  | .presenceConfirmed cabin => Sys2Proof.Machine.execPresenceConfirmed cabin s
  | .presenceClear cabin => Sys2Proof.Machine.execPresenceClear cabin s
  | .latchEvent cabin latched => Sys2Proof.Machine.execLatchEvent cabin latched s
  | .cursorTimerExpiry => Sys2Proof.Machine.execCursorTimerExpiry s
  | .messageHoldExpiry => Sys2Proof.Machine.execMessageHoldExpiry s
  | .pairTurn => Sys2Proof.Machine.execPairTurn s
  | .scrollStep => Sys2Proof.Machine.execScrollStep s
  | .recoveryWindowExpiry => Sys2Proof.Machine.execRecoveryWindowExpiry s
  | .logicSupplyLow => Sys2Proof.Machine.execLogicSupplyLow s
  | .logicSupplyLost => Sys2Proof.Machine.execLogicSupplyLost s
  | .logicSupplyRestored strap zone => Sys2Proof.Machine.execLogicSupplyRestored strap zone s
  | .resetLineLow => Sys2Proof.Machine.execResetLineLow s
  | .resetLineHigh => Sys2Proof.Machine.execResetLineHigh s
  | .warmStartEnd strap zone checkDifference => Sys2Proof.Machine.execWarmStartEnd strap zone checkDifference s
  | .filterLoadEnd => Sys2Proof.Machine.execFilterLoadEnd s
  | .panelFrame => Sys2Proof.Machine.execPanelFrame s
  | .senseSample levels => Sys2Proof.Machine.execSenseSample levels s

end Sys2Proof.Machine
end

