-- ==== Sys2Proof/Machine/Idle.lean ====
section
/-!
DEFINITION. What the block does when no command waits and no event stands between its blocks: the event of a timer
that has come due is taken, and with none due a millisecond passes (notes/assumptions/4.md).
-/

namespace Sys2Proof.Machine

open Sys2Proof

/-- The event of a timer, raised when the timer runs and its moment has come. -/
def due (now : Moment) (t : Option Moment) (event : Instr) : List Instr :=
  match t with
  | some m => if m ≤ now then [event] else []
  | none => []

/-- R1: a reader input's gap is longer than 20 ms. -/
def Station.dueGaps (s : Station) : List Instr :=
  s.taps.inputs.flatMap fun i =>
    due s.now (i.gapEnd.map (· + 1)) (.readerCharacterTimeout i.reader)

/-- The timers of the claims (R51, R52). -/
def Station.dueClaims (s : Station) : List Instr :=
  s.claims.claims.flatMap fun c =>
    match c.state with
    | .queued => due s.now (some (c.queueTime + 1000)) (.claimSendDeadline c.party)
    | .sent windowEnd => due s.now (some windowEnd) (.claimWindowEnd c.party)

/-- The timers of the lockers (R22, R34, R35, R37). -/
def Station.dueLockers (s : Station) : List Instr :=
  due s.now (some s.lockers.minuteDue) .minuteTick ++
  s.lockers.lockers.flatMap fun l =>
    due s.now l.grantWait (.grantWaitExpiry l.number) ++
    due s.now l.doorWait (.doorWaitExpiry l.number) ++
    due s.now l.boltWait (.boltWaitExpiry l.number)

/-- The timers of the tally unit and the directory (R78, R109, R115). -/
def Station.dueTally (s : Station) : List Instr :=
  due s.now s.tally.timer .tallyTimer ++
  (s.tally.neighbours.flatMap fun n =>
    if n.stale then [] else due s.now (some (n.heardAt + 7000)) (.neighbourStale n.station)) ++
  s.directory.redirects.flatMap fun r =>
    due s.now (some (r.moment + 30000)) (.redirectRecordExpiry r.serial)

/-- The timers of the drive arbiter (R149 to R151), and a PULLED report on its way (R34). -/
def Station.dueDrive (s : Station) : List Instr :=
  s.drive.late.map Instr.pullEnd ++
  (s.drive.queue.flatMap fun r =>
    match r.phase with
    | .pull _ ends => due s.now (some ends) (.pullEnd r.output)
    | .rest ends => due s.now (some ends) (.jamRestEnd r.output)
    | _ => []) ++
  s.drive.slots.flatMap fun k => due s.now k.restUntil (.slotRestEnd k.number)

/-- The timers of the cabin unit and of the pads (R86, R95, R99, R100, R164). -/
def Station.dueCabins (s : Station) : List Instr :=
  due s.now (some s.cabins.clockDue) .cabinClockTick ++
  (s.cabins.cabins.flatMap fun c =>
    due s.now c.graceAt (.graceExpiry c.number) ++
    due s.now c.admitAt (.admitTimerExpiry c.number) ++
    due s.now c.vacateAt (.vacateTimerExpiry c.number)) ++
  s.scan.pads.flatMap fun p => due s.now p.confirmAt (.presenceConfirmed p.number)

/-- The timers of the panel (R172 to R174). -/
def Station.duePanel (s : Station) : List Instr :=
  due s.now s.panel.cursorTimer .cursorTimerExpiry ++
  due s.now s.panel.holdEnd .messageHoldExpiry ++
  due s.now s.panel.turnEnd .pairTurn

/-- The start of a frame (R168). -/
def Station.dueFrame (s : Station) : List Instr :=
  if s.panel.frameDue ≤ 8 * s.now then [.panelFrame] else []

/-- The release timer of hold-down (R194). -/
def Station.dueRelease (s : Station) : List Instr := due s.now s.restart.releaseAt .holdDownRelease

/-- The RESTART wait and the recovery window (R190, R197). -/
def Station.dueRestart (s : Station) : List Instr :=
  due s.now (s.orders.restartWait.map (·.deadline)) .restartWaitExpiry ++
  due s.now s.restart.windowEnd .recoveryWindowExpiry

/-- A sample instant (R159), with the switches as they last were. -/
def Station.dueSample (s : Station) : List Instr :=
  due s.now (some s.scan.sampleDue) (.senseSample s.scan.switches)

/-- The events due at this moment: all of them while the blocks run; in STRAP_FAULT those of the receivers, the
supply monitor and the panel's frames; during a warm start that of the supply monitor. -/
def Station.dueEvents (s : Station) : List Instr :=
  match s.restart.phase with
  | .off => []
  | .warm _ => s.dueRelease
  | .running =>
    if s.restart.mode = .strapFault then s.dueGaps ++ s.dueRelease ++ s.dueFrame
    else
      s.dueGaps ++ s.dueClaims ++ s.dueRestart ++ s.dueTally ++ s.dueLockers ++ s.dueDrive ++
        s.dueRelease ++ s.dueCabins ++ s.duePanel ++ s.dueFrame ++ s.dueSample

/-- One millisecond passes. -/
def Station.passTime (s : Station) : Station := { s with now := s.now + 1 }

/-- Idling: no command waits, no event stands to be taken and no timer is due. -/
def idle (s : State) : State := { s with station := s.station.passTime }

end Sys2Proof.Machine
end

