-- ==== Sys2Proof/Machine/Step.lean ====
section
/-!
DEFINITION. One step: the command at the front of the queue is executed on the state with the queue's rest. On
an empty queue the first event that one block has handed to another is taken; with none, the first event due at
this moment; with none due, the block idles. What is due is worked out anew at each step, so a timer that a command
has cancelled or started afresh raises nothing.
-/

namespace Sys2Proof.Machine

open Sys2Proof

def step (s : State) : Host.Outcome State Fault Refusal :=
  match s.pending with
  | c :: rest => exec c { s with pending := rest }
  | [] =>
    match s.station.deliveries with
    | c :: _ => exec c s
    | [] =>
      match s.station.dueEvents with
      | c :: _ => exec c s
      | [] => .next (idle s)

/-- The state with the command that a word spells at the front of the queue; no word spells one. -/
def State.withFetchWord (s : State) (nbits w : Nat) : State :=
  match decodeTableWord nbits w with
  | some c => { s with pending := c :: s.pending }
  | none => s

end Sys2Proof.Machine
end

