-- ==== Sys2Proof/Safety.lean ====
section
/-!
DEFINITION. What a safe station is, in the terms the statements use: the tables keep to the sizes the spec gives
them, no drive output is on while the drive is held down or its group is FAULTED, and no party has two places
at one station.
-/

namespace Sys2Proof.Machine

open Sys2Proof

/-- The capacities of the tables: the claims table (R47), the announcement list (R64), the directory cache
(R71), the redirect list (R78), the cabin queue (R97) and the transmit queue (R134). The cabin records stand in number
order (R85). While the link is DOWN no walk runs, no announcement is listed (R64), and the transmit queue holds only
RECALL and REPORT frames (R140). -/
structure Station.Bounded (s : Station) : Prop where
  claims        : s.claims.claims.length ≤ 4
  announcements : s.claims.announcements.length ≤ 2
  cache         : s.directory.cache.length ≤ 128
  redirects     : s.directory.redirects.length ≤ 16
  cabinQueue    : s.cabins.queue.length ≤ 16
  transmitQueue : s.link.queue.length ≤ 12
  cabinOrder    : (s.cabins.cabins.map (·.number)).Pairwise (· < ·)
  down          : s.link.up = false →
    s.claims.walk = none ∧ s.claims.announcements = [] ∧
      ∀ f ∈ s.link.queue, f.kind = .recall ∨ f.kind = .report

/-- The request's output is on: full on in PULL, at hold duty in HOLD (R144). -/
def DriveRequest.driving (r : DriveRequest) : Bool :=
  match r.phase with
  | .pull _ _ => true
  | .hold => true
  | .waiting => false
  | .rest _ => false

/-- R144: no output is on while the drive supply is held down or while its group is FAULTED. While a start is in
progress, and in STRAP_FAULT, no request, no frame and no report of a frame stands anywhere (R142, R157, R192). -/
structure Station.DriveSafe (s : Station) : Prop where
  released : ∀ r ∈ s.drive.queue, r.driving = true → s.restart.holdDown = false
  sound    : ∀ r ∈ s.drive.queue, r.driving = true → s.faulted (groupOf r.output) = false
  quiet    : s.restart.phase ≠ .running ∨ s.restart.mode = .strapFault →
    s.drive.queue = [] ∧ s.link.queue = [] ∧ s.link.reports = []

/-- R145, R151: an output has at most one request; the four slots are there; a pull occupies a slot that is not
resting; and no two pulls occupy one slot. -/
structure Station.SlotsSound (s : Station) : Prop where
  outputs  : (s.drive.queue.map (·.output)).Nodup
  four     : s.drive.slots.map (·.number) = [1, 2, 3, 4]
  occupied : ∀ r ∈ s.drive.queue, ∀ slot ends, r.phase = .pull slot ends →
    ∃ k ∈ s.drive.slots, k.number = slot ∧ k.restUntil = none
  apart    : ∀ r ∈ s.drive.queue, ∀ q ∈ s.drive.queue, ∀ slot e d,
    r.phase = .pull slot e → q.phase = .pull slot d → r.output = q.output

/-- R19: no two holdings have one party; nor have two claims, or a claim and a holding (R33). -/
structure Station.OnePlace (s : Station) : Prop where
  holdings : (s.lockers.holdings.map (·.party)).Nodup
  claims   : (s.claims.claims.map (·.party)).Nodup
  apart    : ∀ c ∈ s.claims.claims, ∀ h ∈ s.lockers.holdings, c.party ≠ h.party

/-- R194: hold-down is in force while the supply stands below 20.0 V, and the release timer runs only while it
is in force and the supply stands above 21.5 V. -/
structure Station.SupplyWatched (s : Station) : Prop where
  low   : s.restart.driveSupply = .low → s.restart.holdDown = true
  timer : s.restart.releaseAt.isSome = true → s.restart.holdDown = true ∧ s.restart.driveSupply = .high

/-! ### The terms of the statements -/

/-- Every cabin's record shows its latch where the filtered level stands: no latch event is still to be taken (R89,
R161). -/
def Station.LatchesSeen (s : Station) : Prop :=
  ∀ c ∈ s.cabins.cabins, c.latchPosition = s.latchLevel c.number

/-- The command answers a next state that differs in its station alone, and `P` holds of the station before, with
the command's own event taken from those that wait between blocks, and of the station after. -/
def Runs (c : Instr) (s : State) (P : Station → Station → Prop) : Prop :=
  ∃ t : Station, exec c s = .next { s with station := t } ∧ P (s.station.take c) t

/-- No report of a frame waits for its owner (R138). -/
def Station.Settled (s : Station) : Prop := s.link.reports = []

/-- The blocks run and the reports have reached their owners; and the link is UP, or DOWN with no recessive span seen,
so that a frame heard leaves it so (R141; LineRows says what one does after the span), and then no walk runs (R64). -/
structure Station.Ready (s : Station) : Prop where
  live    : s.live = true
  link    : s.link.up = true ∨ (s.link.recessiveSeen = false ∧ s.claims.walk = none)
  settled : s.Settled

/-- The transmit queue has room for `n` frames (R135). -/
def Station.Room (n : Nat) (s : Station) : Prop := s.link.queue.length + n ≤ 12

/-- The line has been recessive: the dominant watch is 0 (R139), and this station drives no spoil slot (R127). -/
def Station.heardLine (s : Station) : Station :=
  { s with link.dominantWatch := 0, link.spoilSlot := .recessive }

/-- R64, R83, R139: the link has gone DOWN and its owners are not told yet: the transmit queue is emptied, its frames
but the CLAIMs are counted in frames lost, and the losses, the RECOUNT count, the announcement list and the walk end. -/
def Station.wentDown (s : Station) : Station :=
  { s with
    link.up := false
    link.queue := []
    link.losses := 0
    link.recessiveSeen := false
    link.framesLost :=
      (s.link.queue.filter fun f => decide (f.kind ≠ .claim)).foldl (fun n _ => satInc n) s.link.framesLost
    directory.recounts := 0
    claims.announcements := []
    claims.walk := none }

/-- R190, R195: the warm start ORDERED begins: each block loses what a warm start loses, the retention check is kept,
and the end of the start is handed on. -/
def Station.ordered (s : Station) : Station :=
  { s.loseVolatile with
    deliveries := [.warmStartEnd s.restart.strapPins s.restart.zonePins 0]
    restart :=
      { s.loseVolatile.restart with
        phase := .warm .ordered
        check := s.retentionCheck } }

/-- The claim whose CLAIM frame `f` is; none for a frame of another kind or role. -/
def Station.emptiedClaim (f : TxFrame) (s : Station) : Option Claim :=
  s.claims.claims.find? fun c => decide (f.kind = .claim ∧ f.role = .claim ∧ c.frame = some f.id)

/-- The owners are told of the frames that the emptied queue held, in the order of the queue (the model's choice,
notes/assumptions/33.md): the CLAIM of a claim has it confirmed with the mark UNANNOUNCED (R62), the REPORT of a RESTART
begins the warm start ORDERED, which ends all else (R190), and the others change nothing more (R62, R64, R83, R138). -/
def toldEmptied : List TxFrame → Station → Station
  | [], s => s
  | f :: rest, s =>
    if f.kind = .report ∧ s.orders.restartWait.map (·.frame) = some f.id then s.ordered
    else
      toldEmptied rest
        (match s.emptiedClaim f with
        | some c => s.confirmClaim c true
        | none => s)

/-- A command by which a delivered frame is heard from another sender: the rows of received frames and of ORDERs. -/
def hearsFrame (c : Instr) : Prop :=
  ∃ sender content,
    c ∈ [.heldReceived sender content, .yieldReceived sender content, .freeReceived sender content,
      .claimReceived sender content, .recountReceived sender content, .recallReceived sender content,
      .tallyReceived sender content]

/-- An ORDER that the order unit takes: it comes from a console, names every station or this one, and no RESTART
waits (R179, R190). -/
structure Station.Takes (s : Station) (o : OrderFrame) : Prop where
  console : 28 ≤ o.sender.toNat
  target  : o.target.toNat = 0 ∨ o.target.toNat = s.restart.station
  waits   : s.orders.restartWait = none

/-- R182: a REPORT frame is queued: sub-kind 1, the console, the order code, the result, the page byte and the
data. -/
def Station.reported (o : OrderFrame) (code result page : Byte) (data : List Byte) (s : Station) : Station :=
  s.offer .report ([1, oneByte (o.sender.toNat - 27), code, result, page] ++ data) .orderUnit .plain

/-- R16, R45: the record with which locker k begins. -/
def Station.classifies (s : Station) (k : Nat) : Locker :=
  { number := k
    size := if s.orders.setup.lockerCount < k + s.orders.setup.largeCount then .large else .standard
    state := if s.doorClosed k = true ∧ s.boltEngaged k = true then .orphan else .free
    wear := 0
    purpose := none
    returnState := none
    forced := false
    grantWait := none
    doorWait := none
    boltWait := none }

/-- R85: the record with which cabin c begins. -/
def Station.creates (s : Station) (c : Nat) : Cabin :=
  { number := c
    state := if s.presence c = .confirmed then .occupied else .free
    latchPosition := s.latchLevel c
    latchTarget := if s.presence c = .confirmed then none else some .unlatched
    presence := s.presence c
    occupant := none
    occupancy := if s.presence c = .confirmed then s.cabins.clock else 0
    clearMoment := none
    reservedFor := none
    overstay := false
    latchMoving := false
    graceAt := none
    admitAt := none
    vacateAt := none
    seconds := 0
    unsettled := false }

/-- R193, R197: the station enters RECOVERING: the records are made, a latch that stands LATCHED in a FREE cabin
is pulsed (R87), RECALL is queued with its mark clear, and the 3 s window starts. -/
def Station.recovered (s : Station) : Station :=
  let entered : Station :=
    { s with
      restart.mode := .recovering
      restart.recallDelivered := false
      restart.windowEnd := some (s.now + 3000)
      lockers.lockers := (List.range s.orders.setup.lockerCount).map fun i => s.classifies (i + 1)
      cabins.cabins := (List.range s.orders.setup.cabinCount).map fun i => s.creates (i + 1) }
  (entered.compareLatches s.orders.setup.cabinCount).offer .recall [] .restartControl .plain

/-- The order code of an ORDER row and its frame; none for the other rows. -/
def orderRow : Instr → Option (Byte × OrderFrame)
  | .orderBadCode code o => some (code, o)
  | .setupLockers o => some (1, o)
  | .setupCabins o => some (2, o)
  | .setDay o => some (3, o)
  | .openLocker o => some (4, o)
  | .endHolding o => some (5, o)
  | .lockerServiceOff o => some (6, o)
  | .lockerServiceOn o => some (6, o)
  | .cabinServiceOff o => some (7, o)
  | .cabinServiceOn o => some (7, o)
  | .clearFaultLocker o => some (8, o)
  | .clearFaultCabin o => some (8, o)
  | .clearFaultGroup o => some (8, o)
  | .takeCountersSnapshot o => some (9, o)
  | .readCounters o => some (9, o)
  | .readLocker o => some (10, o)
  | .readCabins o => some (11, o)
  | .findParty o => some (12, o)
  | .restart o => some (13, o)
  | _ => none

/-- The parameter bytes that an order code needs (R143). -/
def paramsNeeded (code : Byte) : Nat :=
  [0, 9, 8, 1, 1, 1, 2, 2, 2, 1, 1, 1, 4, 0].getD code.toNat 0

end Sys2Proof.Machine
end

