-- ==== Sys2Proof/Certificates/Slice0/Obligations.lean ====
section
/-!
DEFINITION. The statements for the provers. `Runs c s fun a t => …` says that the command answers a next state:
`a` is the station as the command finds it, its own event taken from those that wait between blocks, and `t` the
station it leaves. An equation for `t` is the whole frame: what it does not name is unchanged.
-/

open Sys2Proof Sys2Proof.Machine

/-! ### The machine as a whole -/

/-- A step takes the command at the front of the queue and runs it on the queue's rest. -/
def Obligations.StepTakesFront : Prop :=
  ∀ (c : Instr) (rest : List Instr) (s : State),
    step { s with pending := c :: rest } = exec c { s with pending := rest }

/-- No command ends in a fault or a refusal, and none touches the queue of commands. -/
def Obligations.EveryCommandAnswers : Prop :=
  ∀ (c : Instr) (s : State), ∃ t : Station, exec c s = .next { s with station := t }

/-- R144, R153, R155: every step keeps outputs off under hold-down and in a FAULTED group. R142, R157, R192: in a start
and in STRAP_FAULT no request, frame or report stands anywhere. -/
def Obligations.DriveSafeKept : Prop :=
  ∀ s t : State, s.station.DriveSafe → step s = .next t → t.station.DriveSafe

/-- R145, R146, R151: every step keeps one request to an output, and one pull to a slot that is not resting. -/
def Obligations.SlotsSoundKept : Prop :=
  ∀ s t : State, s.station.SlotsSound → step s = .next t → t.station.SlotsSound

/-- R47, R64, R71, R78, R97, R134, R140: every step keeps the tables within their sizes, the cabin records in number
order, and a DOWN link without walk, announcements and frames but RECALL and REPORT. -/
def Obligations.BoundedKept : Prop :=
  ∀ s t : State, s.station.Bounded → step s = .next t → t.station.Bounded

/-- R19, R24, R47, R198: every step keeps each party in one place here. -/
def Obligations.OnePlaceKept : Prop :=
  ∀ s t : State, s.station.OnePlace → step s = .next t → t.station.OnePlace

/-- R194: every step keeps hold-down in force below 20.0 V, and the release timer within its levels. -/
def Obligations.SupplyWatchedKept : Prop :=
  ∀ s t : State, s.station.SupplyWatched → step s = .next t → t.station.SupplyWatched

/-- R138: a step that finds no report of a frame waiting for its owner leaves none waiting. -/
def Obligations.NoReportWaitsBetweenSteps : Prop :=
  ∀ s t : State, s.station.Settled → step s = .next t → t.station.Settled

/-- The state after reset meets every invariant above. -/
def Obligations.ResetMeetsInvariants : Prop :=
  let s := State.reset.station
  s.DriveSafe ∧ s.SlotsSound ∧ s.Bounded ∧ s.OnePlace ∧ s.SupplyWatched ∧ s.Settled

/-! ### The shared operations -/

/-- R134 to R138, R140: in a queue ordered by kind code and age a new frame keeps the order, what is evicted is the
newest waiting frame of larger kind code, and what becomes of a frame that an owner offers and of one that it
withdraws. -/
def Obligations.TransmitQueueRule : Prop :=
  ((∀ (f : TxFrame) (queue : List TxFrame),
     (∀ g ∈ queue, g.queueTime ≤ f.queueTime) →
     queue.Pairwise (fun g h => kindCode g.kind < kindCode h.kind ∨
       (kindCode g.kind = kindCode h.kind ∧ g.queueTime ≤ h.queueTime)) →
     (insertFrame f queue).Pairwise (fun g h => kindCode g.kind < kindCode h.kind ∨
       (kindCode g.kind = kindCode h.kind ∧ g.queueTime ≤ h.queueTime)) ∧
     (insertFrame f queue).Perm (f :: queue)) ∧
   ∀ (code : Nat) (queue : List TxFrame),
     match evictable code queue with
     | some g =>
       g ∈ queue ∧ g.onLine = false ∧ code < kindCode g.kind ∧
       ∀ h ∈ queue, h.onLine = false → code < kindCode h.kind → h.queueTime ≤ g.queueTime
     | none => ∀ h ∈ queue, h.onLine = false → kindCode h.kind ≤ code) ∧
  (∀ (before : List TxFrame) (f : TxFrame) (after : List TxFrame) (s : Station),
    s.link.queue = before ++ f :: after → (s.link.queue.map (·.id)).Nodup →
    (f.onLine = false → s.withdrawFrame f.id = { s with link.queue := before ++ after }) ∧
    (f.onLine = true →
      s.withdrawFrame f.id = { s with link.queue := before ++ { f with withdrawn := true } :: after })) ∧
  (∀ (id : Nat) (s : Station), (∀ f ∈ s.link.queue, f.id ≠ id) → s.withdrawFrame id = s) ∧
  ∀ (kind : Kind) (content : List Byte) (owner : Owner) (role : Role) (s : Station),
    let f : TxFrame :=
      { id := s.link.nextFrame, kind, content, owner, role, queueTime := s.now, attempts := 0,
        onLine := false, withdrawn := false }
    let t := s.offer kind content owner role
    let counted : Station := { s with link.nextFrame := s.link.nextFrame + 1 }
    let admitted := s.link.up = true ∨ kind = .recall ∨ kind = .report
    let waiting := ∃ g ∈ s.link.queue, g.kind = .tally ∧ g.onLine = false
    (¬ admitted →
      t = { counted with
            link.reports := s.link.reports ++ [{ frame := f, fate := .refusedDown }]
            link.framesLost := satInc s.link.framesLost }) ∧
    (admitted → kind = .tally → waiting →
      t = { counted with
            link.queue :=
              insertFrame f (s.link.queue.filter fun g => !(decide (g.kind = .tally) && !g.onLine)) }) ∧
    (admitted → ¬ (kind = .tally ∧ waiting) → s.link.queue.length < 12 →
      t = { counted with link.queue := insertFrame f s.link.queue }) ∧
    (admitted → ¬ (kind = .tally ∧ waiting) → 12 ≤ s.link.queue.length →
      (∀ g, evictable (kindCode kind) s.link.queue = some g →
        t = { counted with
              link.queue := insertFrame f (s.link.queue.filter fun h => decide (h.id ≠ g.id))
              link.reports := s.link.reports ++ [{ frame := g, fate := .notSent }]
              link.framesLost := satInc s.link.framesLost }) ∧
      (evictable (kindCode kind) s.link.queue = none →
        t = { counted with
              link.reports := s.link.reports ++ [{ frame := f, fate := .notSent }]
              link.framesLost := satInc s.link.framesLost }))

/-- R145 to R148: a request enters at the tail, WAITING with attempt 1, unless its output has one, and the grant test
is made. A grant goes to the first WAITING request of a sound group, in the lowest-numbered free slot, for the pull time
of its attempt; a latch found at its target is done, and its slot stays free. Under hold-down, where every slot rests or
holds a pull, or where every WAITING request is of a FAULTED group, none is made; otherwise grants follow one another until none is left where each cabin's record shows its
latch's level. Elsewhere (within a sample instant, before the filter load, or for a cabin created before it) they stop
at twice the queue's length, the model's choice (notes/assumptions/9.md). -/
def Obligations.GrantRule : Prop :=
  ∀ s : Station,
    (∀ output purpose,
      ((∃ r ∈ s.drive.queue, r.output = output) → s.makeRequest output purpose = s.grantTest) ∧
      ((∀ r ∈ s.drive.queue, r.output ≠ output) →
        s.makeRequest output purpose =
          ({ s with
            drive.queue := s.drive.queue ++ [{ output, purpose, attempt := 1, phase := .waiting }] } :
            Station).grantTest)) ∧
    (s.restart.holdDown = true → s.grantOne = none ∧ s.grantTest = s) ∧
    (s.freeSlot = none → s.grantOne = none ∧ s.grantTest = s) ∧
    (s.freeSlot = none →
      ∀ x ∈ s.drive.slots, x.restUntil ≠ none ∨ ∃ r ∈ s.drive.queue, ∃ e, r.phase = .pull x.number e) ∧
    (s.grantable = none → s.grantOne = none ∧ s.grantTest = s) ∧
    (s.grantable = none ↔ ∀ r ∈ s.drive.queue, r.phase = .waiting → s.faulted (groupOf r.output) = true) ∧
    (∀ k before r after, s.restart.holdDown = false → s.freeSlot = some k →
      s.drive.queue = before ++ r :: after →
      (∀ q ∈ before, q.phase = .waiting → s.faulted (groupOf q.output) = true) →
      r.phase = .waiting → s.faulted (groupOf r.output) = false →
      (s.drive.queue.map (·.output)).Nodup →
      ((∃ p, r.purpose = .bolt p) ∨
        (∃ target, r.purpose = .latch target ∧ s.latchLevel (r.output - 59) ≠ target)) →
      s.grantOne = some { s with
        drive.queue := before ++
          { r with
            phase := .pull k
              (s.now + min 250 (match r.attempt with
                | 1 => s.orders.setup.pullTime
                | 2 => 3 * s.orders.setup.pullTime / 2
                | _ => 2 * s.orders.setup.pullTime)) } :: after }) ∧
    (∀ k before r after target c, s.restart.holdDown = false → s.freeSlot = some k →
      s.drive.queue = before ++ r :: after →
      (∀ q ∈ before, q.phase = .waiting → s.faulted (groupOf q.output) = true) →
      r.phase = .waiting → s.faulted (groupOf r.output) = false →
      (s.drive.queue.map (·.output)).Nodup → 60 ≤ r.output →
      r.purpose = .latch target → s.latchLevel (r.output - 59) = target → s.cabin? (r.output - 59) = some c →
      let ended : Station :=
        ({ s with drive.queue := before ++ after } : Station).changeCabin (r.output - 59) fun d =>
          { d with latchMoving := false }
      (c.latchTarget = none ∨ c.latchTarget = some c.latchPosition → s.grantOne = some ended) ∧
      ∀ x, c.latchTarget = some x → x ≠ c.latchPosition →
        s.grantOne = some (({ ended with
          drive.queue :=
            before ++ after ++
              [{ output := r.output, purpose := .latch x, attempt := 1, phase := .waiting }] } :
            Station).changeCabin (r.output - 59) fun d => { d with latchMoving := true })) ∧
    (∀ t, s.grantOne = some t → s.grantTest = grants (2 * s.drive.queue.length - 1) t) ∧
    (s.LatchesSeen →
      s.grantTest.grantOne = none ∧ ∀ t, s.grantOne = some t → s.grantTest = t.grantTest) ∧
    ∀ k, s.freeSlot = some k →
      ∃ before slot after, s.drive.slots = before ++ slot :: after ∧ slot.number = k ∧
        slot.restUntil = none ∧ (∀ r ∈ s.drive.queue, ∀ e, r.phase ≠ .pull k e) ∧
        ∀ x ∈ before, x.restUntil ≠ none ∨ ∃ r ∈ s.drive.queue, ∃ e, r.phase = .pull x.number e

/-- R87, R88: a latch target is set. Where it differs from the position and no request is in flight, a request is
made; a request for another target is withdrawn unless it is in PULL, one that an aborted pull has left with an old
target among them (the model's choice, notes/assumptions/47.md). -/
def Obligations.LatchTargetRule : Prop :=
  ∀ (n : Nat) (target : Option Latch) (c : Cabin) (s : Station), s.cabin? n = some c →
    let t := s.setLatchTarget n target
    let aimed := s.changeCabin n fun d => { d with latchTarget := target }
    let requested (x : Latch) (b : Station) : Station :=
      let queued : Station :=
        { b with
          drive.queue :=
            b.drive.queue ++ [{ output := 59 + n, purpose := .latch x, attempt := 1, phase := .waiting }] }
      (queued.changeCabin n fun d => { d with latchMoving := true }).grantTest
    (s.request? (59 + n) = none →
      (c.latchMoving = true ∨ target = none ∨ target = some c.latchPosition → t = aimed) ∧
      (∀ x, c.latchMoving = false → target = some x → c.latchPosition ≠ x → t = requested x aimed)) ∧
    ∀ r, s.request? (59 + n) = some r →
      ((∃ x, r.purpose = .latch x ∧ target = some x) → t = aimed) ∧
      ((∀ x, r.purpose = .latch x → target ≠ some x) →
        (∀ slot e, r.phase = .pull slot e → t = aimed) ∧
        ((∀ slot e, r.phase ≠ .pull slot e) →
          let ended : Station :=
            { s with drive.queue := s.drive.queue.filter fun q => decide (q.output ≠ 59 + n) }
          let withdrawn :=
            ended.changeCabin n fun d => { d with latchTarget := target, latchMoving := false }
          (target = none ∨ target = some c.latchPosition → t = withdrawn) ∧
          (∀ x, target = some x → c.latchPosition ≠ x → t = requested x withdrawn)))

/-- R98: a released cabin is RESERVED for the oldest WAITING entry, or FREE; an entry that returns to WAITING gives
the lowest-numbered FREE cabin, where there is one, to the oldest WAITING entry. The cabin records stand in number
order (Station.Bounded, kept by BoundedKept). -/
def Obligations.ServingStep : Prop :=
  let reserved (n : Nat) (e : QueueEntry) (s : Station) : Station :=
    let named : Station :=
      { s with
        cabins.queue :=
          updateWhere (fun q => decide (q.serial = e.serial))
            (fun q =>
              { q with
                state := .reserved n
                graceEnd := some (s.cabins.clock + BitVec.ofNat 16 s.orders.setup.grace) })
            s.cabins.queue }
    ((named.changeCabin n fun c =>
      { c with
        state := .reserved
        occupant := none
        clearMoment := none
        reservedFor := some e.serial
        overstay := false
        graceAt := some (s.now + 1000 * s.orders.setup.grace)
        admitAt := none
        vacateAt := none
        seconds := 0
        unsettled := false }).setLatchTarget n (some .latched)).post (.cabinReady n)
  let freed (n : Nat) (s : Station) : Station :=
    (s.changeCabin n fun c =>
      { c with
        state := .free
        occupant := none
        clearMoment := none
        reservedFor := none
        overstay := false
        graceAt := none
        admitAt := none
        vacateAt := none
        seconds := 0
        unsettled := false }).setLatchTarget n (some .unlatched)
  ∀ s : Station,
    (∀ n before e after, s.cabins.queue = before ++ e :: after → (∀ q ∈ before, q.state ≠ .waiting) →
      e.state = .waiting → s.releaseCabin n = reserved n e s) ∧
    (∀ n, (∀ q ∈ s.cabins.queue, q.state ≠ .waiting) → s.releaseCabin n = freed n s) ∧
    ∀ serial,
      let returned : Station :=
        { s with
          cabins.queue :=
            updateWhere (fun q => decide (q.serial = serial))
              (fun q => { q with state := .waiting, graceEnd := none }) s.cabins.queue }
      ((∀ c ∈ s.cabins.cabins, c.state ≠ .free) → s.returnEntry serial = returned) ∧
      ∀ c before e after, (s.cabins.cabins.map (·.number)).Pairwise (· < ·) → c ∈ s.cabins.cabins →
        c.state = .free →
        (∀ d ∈ s.cabins.cabins, d.state = .free → c.number ≤ d.number) →
        returned.cabins.queue = before ++ e :: after → (∀ q ∈ before, q.state ≠ .waiting) →
        e.state = .waiting → s.returnEntry serial = reserved c.number e returned

/-- R21, R66: a holding that ends is deleted; an announced one draws a FREE while the link is UP, and an
UNANNOUNCED one withdraws its announcement. R64: the walk announces the next UNANNOUNCED holding in locker order
while its list holds fewer than 2, and ends when none is left. R18, R35, R38, R41: a locker set FREE, settled LOCKED,
or settled in another state, and no other locker. -/
def Obligations.EndingAndSettling : Prop :=
  (∀ s : Station,
     let listed (h : Holding) : Prop := ∃ x ∈ s.claims.announcements, x.locker = h.locker
     let due (from' : Nat) (h : Holding) : Prop :=
       h ∈ s.lockers.holdings ∧ h.unannounced = true ∧ from' ≤ h.locker ∧ ¬ listed h
     s.startWalk = ({ s with claims.walk := some 1 } : Station).continueWalk ∧
     (s.claims.walk = none ∨ 2 ≤ s.claims.announcements.length → s.continueWalk = s) ∧
     ∀ from', s.claims.walk = some from' → s.claims.announcements.length < 2 →
       ((∀ h, ¬ due from' h) → s.continueWalk = { s with claims.walk := none }) ∧
       ∀ h l, (s.lockers.lockers.map (·.number)).Pairwise (· < ·) → due from' h →
         (∀ g, due from' g → g = h ∨ h.locker < g.locker) → s.locker? h.locker = some l →
         s.continueWalk =
           ({ s.offer .claim
                (partyBytes h.party ++ [oneByte h.locker] ++ threeBytes h.serial ++
                  [if l.size = .large then 1 else 0]) .claimUnit (.announcement h.locker) with
              claims.announcements :=
                s.claims.announcements ++ [{ locker := h.locker, frame := s.link.nextFrame }]
              claims.walk := if h.locker < s.lockers.lockers.length then some (h.locker + 1) else none } :
             Station).continueWalk) ∧
  (∀ (n : Nat) (h : Holding) (s : Station), s.holdingAt n = some h →
     let t := s.endHoldingAt n
     let gone : Station :=
       { s with lockers.holdings := s.lockers.holdings.filter fun g => decide (g.locker ≠ n) }
     (h.unannounced = false → s.link.up = true →
       t = gone.offer .free (partyBytes h.party ++ [oneByte n]) .lockerTable .plain) ∧
     (h.unannounced = false → s.link.up = false → t = gone) ∧
     (h.unannounced = true → (∀ x ∈ s.claims.announcements, x.locker ≠ n) → t = gone) ∧
     (h.unannounced = true → ∀ before x after, s.claims.announcements = before ++ x :: after →
       x.locker = n → (∀ y ∈ before, y.locker ≠ n) →
       let withdrawn : Station :=
         { gone.withdrawFrame x.frame with
           claims.announcements := s.claims.announcements.filter fun y => decide (y.locker ≠ n) }
       t = withdrawn.continueWalk)) ∧
  ∀ (n : Nat) (l : Locker) (s : Station), s.locker? n = some l →
    let at' (state : LockerState) (forced : Bool) (boltWait : Option Moment) : Locker :=
      { l with
        state, forced, boltWait
        purpose := none
        returnState := none
        grantWait := none
        doorWait := none }
    ((s.freeLocker n).locker? n = some (at' .free (l.forced && !s.doorClosed n) none) ∧
      (s.lockLocker n).locker? n =
        some (at' .locked false (if s.boltEngaged n = true then none else some (s.now + 2000))) ∧
      ∀ state, (s.settleLocker n state).locker? n = some (at' state l.forced none)) ∧
    (∀ m, m ≠ n →
      (s.freeLocker n).locker? m = s.locker? m ∧ (s.lockLocker n).locker? m = s.locker? m ∧
      ∀ state, (s.settleLocker n state).locker? m = s.locker? m) ∧
    (∀ t, t = s.freeLocker n ∨ t = s.lockLocker n ∨ (∃ state, t = s.settleLocker n state) →
      t = { s with lockers.lockers := t.lockers.lockers })

/-- R30: the locker choice. -/
def Obligations.LockerChoice : Prop :=
  ∀ (size : Size) (s : Station),
    let offered (z : Size) (l : Locker) : Prop :=
      l ∈ s.lockers.lockers ∧ l.size = z ∧ l.state = .free ∧ s.doorClosed l.number = true
    match s.chooseLocker size with
    | some l =>
      ∃ z, offered z l ∧ (z = size ∨ (size = .standard ∧ z = .large ∧ ∀ m, ¬ offered .standard m)) ∧
        ∀ m, offered z m → l.wear.toNat < m.wear.toNat ∨ (l.wear = m.wear ∧ l.number ≤ m.number)
    | none => (∀ m, ¬ offered size m) ∧ (size = .standard → ∀ m, ¬ offered .large m)

/-- R116, R118, R120: the dwell average moves an eighth of the way, truncated toward zero, and stays between; the
wait estimate is the rounded-up share of D; a shown wait is rounded up to minutes, at most 99. R121 to R124: what a
cabin suggestion and a locker guidance name. -/
def Obligations.WaitsAndGuidance : Prop :=
  ((∀ d t : Nat,
     (dwellUpdate d t : Int) = (d : Int) + Int.tdiv ((t : Int) - (d : Int)) 8 ∧
     min d t ≤ dwellUpdate d t ∧ dwellUpdate d t ≤ max d t) ∧
   (∀ (s : Station) (k : Nat),
     ((∃ c ∈ s.cabins.cabins, c.state = .free) → s.waitEstimate k = 0) ∧
     ((∀ c ∈ s.cabins.cabins, c.state = .outOfService ∨ c.state = .fault) → s.waitEstimate k = 65535) ∧
     ((∀ c ∈ s.cabins.cabins, c.state ≠ .free) → 0 < s.cabinsInService →
       (k + 1) * s.cabins.dwell ≤ s.waitEstimate k * s.cabinsInService ∧
       s.waitEstimate k * s.cabinsInService < (k + 1) * s.cabins.dwell + s.cabinsInService)) ∧
   ∀ w : Nat,
     (w ≤ 5940 → w ≤ 60 * waitMinutes w ∧ 60 * waitMinutes w < w + 60) ∧ (5940 < w → waitMinutes w = 99)) ∧
  ∀ s : Station,
    let fresh (n : Neighbour) : Prop :=
      n ∈ s.tally.neighbours ∧ n.heard = true ∧ n.aged = false ∧ n.mode = .run
    let far (n : Neighbour) : Int := |(n.zone : Int) - (s.restart.zone.toNat : Int)|
    let cost (n : Neighbour) : Int := n.wait + s.orders.setup.walkPenalty * far n
    let cabin (n : Neighbour) : Prop := fresh n ∧ n.wait ≠ 65535 ∧ n.queue < 16
    let locker (z : Size) (n : Neighbour) : Prop := fresh n ∧ n.driveHold = false ∧ 1 ≤ n.freeOf z
    let nearest (z : Size) (n : Neighbour) : Prop :=
      locker z n ∧ ∀ m, locker z m → far n < far m ∨
        (far n = far m ∧ (m.freeOf z < n.freeOf z ∨ (m.freeOf z = n.freeOf z ∧ n.station ≤ m.station)))
    (∀ w : Nat,
      match s.suggestion w with
      | some x =>
        ∃ n, cabin n ∧ x = .cabinsFaster n.station ∧ cost n + s.orders.setup.margin < w ∧
          ∀ m, cabin m → cost n < cost m ∨ (cost n = cost m ∧ n.station ≤ m.station)
      | none => ∀ n, cabin n → w ≤ cost n + s.orders.setup.margin) ∧
    ∀ size,
      ((∀ n, ¬ locker size n) → (size = .standard → ∀ n, ¬ locker .large n) →
        s.guidance size = .allLockersFull) ∧
      ∀ z, z = size ∨ (size = .standard ∧ z = .large ∧ ∀ m, ¬ locker .standard m) → (∃ n, locker z n) →
        ∃ n, nearest z n ∧ s.guidance size = .noLockerHere n.station

/-! ### Readers and taps (chapters 1, 2 and 5) -/

/-- R1, R2: a break opens a record, a character enters it, and a break, a framing error or a gap of more than 20 ms
discards a partial record and counts it once in taps refused; in STRAP_FAULT, where the retained state is left untouched
(R192), the count is held for the end of that mode, the model's choice (notes/assumptions/15.md). -/
def Obligations.RecordAssembly : Prop :=
  ∀ (r : Reader) (i : ReaderInput) (s : State),
    s.station.restart.phase = .running → s.station.input? r = some i →
    let put (a : Station) (record : Option (List Byte)) (gapEnd : Option Moment) : List ReaderInput :=
      updateWhere (fun j => decide (j.reader = r)) (fun j => { j with record, gapEnd }) a.taps.inputs
    let counted (a : Station) : Station :=
      if a.restart.mode = .strapFault then { a with taps.heldRefused := satInc a.taps.heldRefused }
      else { a with taps.refused := satInc a.taps.refused }
    Runs (.readerBreak r) s (fun a t =>
      t = { (if i.record.isSome then counted a else a) with taps.inputs := put a (some []) none }) ∧
    (∀ b stop, i.record = none → Runs (.readerCharacter r b stop) s fun a t => t = a) ∧
    (∀ b bytes, i.record = some bytes → bytes.length < 7 →
      Runs (.readerCharacter r b true) s fun a t =>
        t = { a with taps.inputs := put a (some (bytes ++ [b])) (some (a.now + 20)) }) ∧
    (∀ b bytes, i.record = some bytes →
      Runs (.readerCharacter r b false) s fun a t =>
        t = { counted a with taps.inputs := put a none none }) ∧
    (∀ g, i.gapEnd = some g →
      Runs (.readerCharacterTimeout r) s fun a t =>
        t = { counted a with now := max a.now (g + 1), taps.inputs := put a none none })

/-- R2 to R14: the eighth character completes a record, which is discarded, refused, taken as a repeat, or handed
on as a tap. -/
def Obligations.CompletedRecord : Prop :=
  ∀ (r : Reader) (i : ReaderInput) (b0 b1 b2 b3 b4 b5 day check : Byte) (s : State),
    s.station.restart.phase = .running → s.station.input? r = some i →
    i.record = some [b0, b1, b2, b3, b4, b5, day] →
    let serial : BitVec 24 := b0 ++ b1 ++ b2
    let family : BitVec 16 := b3 ++ b4
    let good : Prop := check = 255 - (b0 + b1 + b2 + b3 + b4 + b5 + day)
    let again : Prop := ∃ g, i.guard = some g ∧ g.serial = serial ∧ s.station.now ≤ g.time + 1000
    let valid : Prop := serial ≠ 0 ∧ serial ≠ 16777215 ∧ day = s.station.orders.setup.dayCode
    let closed (a : Station) : Station := a.changeInput r fun j => { j with record := none, gapEnd := none }
    let sighted (a : Station) : Station :=
      a.changeInput r fun j =>
        { j with record := none, gapEnd := none, guard := some { serial, time := a.now } }
    let refused (a : Station) : Station := { a with taps.refused := satInc a.taps.refused }
    let tap : Tap :=
      { serial
        family
        party := if family = 0 then ⟨.solo, serial⟩ else ⟨.family, family.setWidth 24⟩
        size := if b5.getLsbD 0 then .large else .standard
        time := s.station.now }
    let mode := s.station.restart.mode
    Runs (.readerCharacter r check true) s fun a t =>
      (mode = .strapFault → t = closed a) ∧
      (mode ≠ .strapFault → ¬ good → t = refused (closed a)) ∧
      (mode ≠ .strapFault → good → again → t = sighted a) ∧
      (mode = .unset ∨ mode = .recovering → good → ¬ again → t = refused ((sighted a).post .notReady)) ∧
      (mode = .run → good → ¬ again → ¬ valid → t = refused ((sighted a).post .bandNotValid)) ∧
      (mode = .run → good → ¬ again → valid →
        t = { sighted a with
              taps.accepted := a.taps.accepted + 1
              taps.sinceRead := satInc a.taps.sinceRead
              deliveries :=
                a.deliveries ++ [match r with
                  | .bank => .lockerTap tap
                  | .cabin n => .cabinTap n tap] })

/-- R27: a tap by a party whose locker is UNBOLTING, UNBOLTED, UNSECURED or JAMMED gives a message alone. -/
def Obligations.OpenDoorAnswers : Prop :=
  ∀ (tap : Tap) (h : Holding) (state : LockerState) (text : Text) (s : State),
    s.station.serving = true → s.station.Settled → s.station.holdingOf tap.party = some h →
    s.station.lockerState h.locker = some state →
    (state, text) ∈ [(.unbolting, .lockerOpenDoor h.locker), (.unbolted, .lockerOpenDoor h.locker),
      (.unsecured, .lockerOpenDoor h.locker), (.jammed, .seeAttendant)] →
    Runs (.lockerTap tap) s fun a t => t = (a.reach tap.time).post text

/-- R25, R26, R66: a tap retrieves from a LOCKED locker and releases an OPEN one; the release of an UNANNOUNCED
holding sends no FREE. -/
def Obligations.TapTakesLocker : Prop :=
  ∀ (tap : Tap) (h : Holding) (s : State),
    s.station.serving = true → s.station.Settled → s.station.holdingOf tap.party = some h →
    s.station.holdingAt h.locker = some h →
    let n := h.locker
    (s.station.lockerState n = some .locked →
      Runs (.lockerTap tap) s fun a t =>
        t = ((((a.reach tap.time).changeLocker n fun l =>
          { l with
            state := .unbolting
            purpose := some .retrieve
            returnState := some .locked
            grantWait := none
            boltWait := none }).makeRequest (n - 1) (.bolt .retrieve)).post (.locker n)).placeCursor n) ∧
    (s.station.lockerState n = some .opened → h.unannounced = true →
      ((∀ x ∈ s.station.claims.announcements, x.locker ≠ n) →
        Runs (.lockerTap tap) s fun a t =>
          t = (({ a.reach tap.time with
                lockers.holdings := a.lockers.holdings.filter fun g => decide (g.locker ≠ n) } :
              Station).freeLocker n).post (.lockerReleased n)) ∧
      (s.station.link.up = true → s.station.Room 2 →
        Runs (.lockerTap tap) s fun a t =>
          t = (((a.reach tap.time).endHoldingAt n).freeLocker n).post (.lockerReleased n))) ∧
    (s.station.lockerState n = some .opened → h.unannounced = false →
      let gone (a : Station) : Station :=
        { a.reach tap.time with lockers.holdings := a.lockers.holdings.filter fun g => decide (g.locker ≠ n) }
      (s.station.link.up = true → s.station.Room 1 →
        Runs (.lockerTap tap) s fun a t =>
          t = (((gone a).offer .free (partyBytes h.party ++ [oneByte n]) .lockerTable .plain).freeLocker
            n).post (.lockerReleased n)) ∧
      (s.station.link.up = false →
        Runs (.lockerTap tap) s fun a t => t = ((gone a).freeLocker n).post (.lockerReleased n)))

/-- R28, R60: a tap of a party with a claim posts "(OPENING)" and adds 1 to the joined-band count. -/
def Obligations.JoinedTap : Prop :=
  ∀ (tap : Tap) (c : Claim) (s : State),
    s.station.serving = true → s.station.Settled → s.station.holdingOf tap.party = none →
    s.station.claimOf tap.party = some c →
    Runs (.lockerTap tap) s fun a t =>
      t = ({ a.reach tap.time with
            claims.claims :=
              updateWhere (fun d => decide (d.party = tap.party))
                (fun d => { d with joined := if d.joined = 255 then 255 else d.joined + 1 })
                a.claims.claims } : Station).post (.lockerOpening c.locker)

/-- R24, R29, R31, R48, R62, R79: the outcomes of a tap by a party with no place here: a redirect, "PLEASE WAIT",
guidance, a claim, and, with the link DOWN, a claim confirmed at once. -/
def Obligations.UnheldTap : Prop :=
  ∀ (tap : Tap) (s : State),
    s.station.serving = true → s.station.Settled → s.station.holdingOf tap.party = none →
    s.station.claimOf tap.party = none →
    let again : Prop := ∃ r, s.station.redirectOf tap.serial = some r ∧
      r.moment + 3000 ≤ tap.time ∧ tap.time ≤ r.moment + 30000
    let noted (insist : Bool) (a : Station) : Station :=
      if insist then
        { a.reach tap.time with
          directory.cache :=
            updateWhere (fun e => decide (e.party = tap.party)) (fun e => { e with doubtful := true })
              a.directory.cache
          directory.redirects := a.directory.redirects.filter fun r => decide (r.serial ≠ tap.serial) }
      else a.reach tap.time
    let made (insist : Bool) (n : Nat) (frame : Option Nat) (b : Station) : Claim :=
      { party := tap.party, serial := tap.serial, locker := n, state := .queued, queueTime := b.now, insist,
        joined := 0, frame }
    let shown (c : Claim) (b : Station) : Station :=
      ((({ b with claims.claims := b.claims.claims ++ [c] } : Station).changeLocker c.locker fun l =>
        { l with state := .claiming }).post (.locker c.locker)).placeCursor c.locker
    (∀ e, s.station.entryOf tap.party = some e → ¬ again →
      Runs (.lockerTap tap) s fun a t =>
        t = ((((a.reach tap.time).post (.goToBank e.holder e.locker)).touchEntry tap.party).recordRedirect
          tap.serial tap.time)) ∧
    ∀ insist,
      (insist = false ∧ s.station.entryOf tap.party = none) ∨
        (insist = true ∧ (s.station.entryOf tap.party).isSome = true ∧ again) →
      (4 ≤ s.station.claims.claims.length →
        Runs (.lockerTap tap) s fun a t => t = (noted insist a).post .pleaseWait) ∧
      (s.station.claims.claims.length < 4 → (noted insist s.station).chooseLocker tap.size = none →
        Runs (.lockerTap tap) s fun a t =>
          t = (noted insist a).post ((noted insist a).guidance tap.size)) ∧
      ∀ l, s.station.claims.claims.length < 4 → (noted insist s.station).chooseLocker tap.size = some l →
        (s.station.link.up = true → s.station.Room 1 →
          Runs (.lockerTap tap) s fun a t =>
            t = (shown (made insist l.number (some a.link.nextFrame) (noted insist a)) (noted insist a)).offer
              .claim
              (partyBytes tap.party ++ [oneByte l.number] ++ threeBytes tap.serial ++
                [if tap.size = .large then 1 else 0]) .claimUnit .claim) ∧
        (s.station.link.up = false →
          Runs (.lockerTap tap) s fun a t =>
            t = (shown (made insist l.number none (noted insist a)) (noted insist a)).confirmClaim
              (made insist l.number none (noted insist a)) true)

/-- R102: the reserved band's tap at its cabin's reader admits it, once. -/
def Obligations.AdmittingTap : Prop :=
  ∀ (n : Nat) (tap : Tap) (c : Cabin) (s : State),
    s.station.serving = true → s.station.cabin? n = some c → c.reservedFor = some tap.serial →
    (c.state = .reserved →
      Runs (.cabinTap n tap) s fun a t =>
        t = (((({ a.reach tap.time with
              cabins.queue :=
                updateWhere (fun e => decide (e.serial = tap.serial)) (fun e => { e with graceEnd := none })
                  a.cabins.queue } : Station).changeCabin n fun d =>
          { d with
            state := .admitting
            graceAt := none
            admitAt := some ((a.reach tap.time).now + 30000) }).setLatchTarget n
            (some .unlatched)).post (.cabinEnter n))) ∧
    (c.state = .admitting →
      Runs (.cabinTap n tap) s fun a t => t = (a.reach tap.time).post (.cabinEnter n))

/-- R103: taps in cases 2 to 4 of R101 post a message and change no state. -/
def Obligations.CabinMessages : Prop :=
  ∀ (n : Nat) (tap : Tap) (s : State),
    s.station.serving = true →
    (∀ c, s.station.cabin? n = some c → c.state = .reserved ∨ c.state = .admitting →
      c.reservedFor ≠ some tap.serial) →
    (∀ before e after, s.station.cabins.queue = before ++ e :: after →
      (∀ q ∈ before, q.serial ≠ tap.serial) → e.serial = tap.serial →
      (∀ c, e.state = .reserved c →
        Runs (.cabinTap n tap) s fun a t => t = (a.reach tap.time).post (.goToCabin c)) ∧
      (e.state = .waiting → 1 ≤ s.station.cabinsInService →
        Runs (.cabinTap n tap) s fun a t =>
          t = (a.reach tap.time).post
            (.queueAbout (before.length + 1) (waitMinutes (a.waitEstimate before.length)))) ∧
      (e.state = .waiting → s.station.cabinsInService = 0 →
        Runs (.cabinTap n tap) s fun a t =>
          t = (a.reach tap.time).post (.queueClosed (before.length + 1)))) ∧
    ∀ c, (∀ e ∈ s.station.cabins.queue, e.serial ≠ tap.serial) →
      s.station.occupiedBy tap.serial = some c →
      Runs (.cabinTap n tap) s fun a t => t = (a.reach tap.time).post (.cabin c.number)

/-- R104: the outcomes of a tap by a band in neither the queue nor a cabin: the lowest-numbered FREE cabin, "CABINS
CLOSED", a full queue, or a place in it. -/
def Obligations.NewArrival : Prop :=
  ∀ (n : Nat) (tap : Tap) (s : State),
    s.station.serving = true →
    (∀ c ∈ s.station.cabins.cabins, c.reservedFor ≠ some tap.serial ∧ c.occupant ≠ some tap.serial) →
    (∀ e ∈ s.station.cabins.queue, e.serial ≠ tap.serial) →
    let q := s.station.cabins.queue.length
    let none' : Prop := ∀ c ∈ s.station.cabins.cabins, c.state ≠ .free
    (∀ c, (s.station.cabins.cabins.map (·.number)).Pairwise (· < ·) → c ∈ s.station.cabins.cabins →
      c.state = .free → (∀ d ∈ s.station.cabins.cabins, d.state = .free → c.number ≤ d.number) →
      Runs (.cabinTap n tap) s fun a t => t = (a.reach tap.time).post (.cabin c.number)) ∧
    (none' → s.station.cabinsInService = 0 →
      Runs (.cabinTap n tap) s fun a t => t = (a.reach tap.time).post .cabinsClosed) ∧
    (none' → 0 < s.station.cabinsInService → 16 ≤ q →
      Runs (.cabinTap n tap) s fun a t =>
        t = (a.reach tap.time).postMessage
          { first := .cabinQueueFull, second := a.suggestion (a.waitEstimate 16) }) ∧
    (none' → 0 < s.station.cabinsInService → q < 16 →
      Runs (.cabinTap n tap) s fun a t =>
        t = ({ a.reach tap.time with
              cabins.queue :=
                a.cabins.queue ++
                  [{ serial := tap.serial, party := tap.party, joined := a.cabins.clock, state := .waiting,
                     graceEnd := none, seconds := 0 }] } : Station).postMessage
          { first := .queueAbout (q + 1) (waitMinutes (a.waitEstimate q))
            second := a.suggestion (a.waitEstimate q) })

/-! ### Claims (chapter 3) -/

/-- R52: a claim still QUEUED at its deadline fails with "LINK BUSY – TRY AGAIN"; a SENT claim has none. -/
def Obligations.ClaimDeadline : Prop :=
  ∀ (p : PartyKey) (c : Claim) (s : State),
    s.station.live = true → s.station.Settled → s.station.claimOf p = some c →
    (c.state = .queued →
      Runs (.claimSendDeadline p) s fun a t =>
        let b := a.reach (c.queueTime + 1000)
        let withdrawn :=
          match c.frame with
          | some id => b.withdrawFrame id
          | none => b
        t = (({ withdrawn with
              claims.claims := a.claims.claims.filter fun d => decide (d.party ≠ p)
              claims.failed := satInc a.claims.failed } : Station).freeLocker c.locker).post .linkBusy) ∧
    ∀ w, c.state = .sent w → Runs (.claimSendDeadline p) s fun a t => t = a

/-- R33, R50, R61, R62: a claim that is confirmed, at its window end or, with the mark UNANNOUNCED, locally, leaves
the table for a holding: a FIRST drive with the door CLOSED, an OPEN locker with FORCED otherwise. R51: a SENT claim
is confirmed when its window ends; a QUEUED claim has no window. -/
def Obligations.ClaimWindow : Prop :=
  let held (c : Claim) (unannounced : Bool) (openings : BitVec 8) (forced : Bool) (b : Station) : Station :=
    { b with
      claims.claims := b.claims.claims.filter fun d => decide (d.party ≠ c.party)
      claims.confirmed := satInc b.claims.confirmed
      directory.cache :=
        if c.insist then b.directory.cache.filter fun e => !(decide (e.party = c.party) && e.doubtful)
        else b.directory.cache
      lockers.holdings :=
        b.lockers.holdings ++
          [{ locker := c.locker, party := c.party, serial := c.serial, start := b.lockers.minute, openings,
             overstay := false, double := false, unannounced, recovered := false, forced }] }
  let confirmed (c : Claim) (unannounced : Bool) (b : Station) : Station :=
    if b.doorClosed c.locker = true then
      ((held c unannounced 0 false b).changeLocker c.locker fun l =>
        { l with
          state := .unbolting
          purpose := some .first
          returnState := some .free
          grantWait := some (b.now + 1000 * b.orders.setup.doorWait)
          boltWait := none }).makeRequest (c.locker - 1) (.bolt .first)
    else (held c unannounced 1 true b).settleLocker c.locker .opened
  (∀ (c : Claim) (unannounced : Bool) (b : Station),
    b.confirmClaim c unannounced = confirmed c unannounced b) ∧
  ∀ (p : PartyKey) (c : Claim) (s : State),
    s.station.live = true → s.station.Settled → s.station.claimOf p = some c →
    (c.state = .queued → Runs (.claimWindowEnd p) s fun a t => t = a) ∧
    ∀ w, c.state = .sent w → Runs (.claimWindowEnd p) s fun a t => t = confirmed c false (a.reach w)

/-! ### The line (chapter 7) -/

/-- R126 to R128, R134, R137, R139: the first entry contends when the line is free, and what the station drives is
the frame with its own number, length, content and check, ten bits to a byte. An attempt that loses arbitration waits
unchanged, and a withdrawn frame leaves without a report. The line has been recessive. -/
def Obligations.AttemptAndArbitration : Prop :=
  ∀ (before : List TxFrame) (f : TxFrame) (after : List TxFrame) (s : State),
    s.station.live = true → s.station.link.queue = before ++ f :: after →
    (∀ g ∈ before ++ after, g.onLine = false) → (s.station.link.queue.map (·.id)).Nodup →
    let level (b : Bool) : LineLevel := if b then .recessive else .dominant
    let ten (b : Byte) : List LineLevel :=
      [.dominant, level (b.getLsbD 7), level (b.getLsbD 6), level (b.getLsbD 5), level (b.getLsbD 4),
        level (b.getLsbD 3), level (b.getLsbD 2), level (b.getLsbD 1), level (b.getLsbD 0), .recessive]
    let code : Nat :=
      match f.kind with
      | .held => 0
      | .yield => 1
      | .free => 2
      | .claim => 3
      | .recount => 4
      | .recall => 5
      | .report => 6
      | .tally => 7
    let body (a : Station) : List Byte :=
      [BitVec.ofNat 8 (32 * code + a.restart.station), BitVec.ofNat 8 f.content.length] ++ f.content
    let sent (a : Station) : List LineLevel :=
      (body a ++ [(frameCheck (body a)).extractLsb' 8 8, (frameCheck (body a)).extractLsb' 0 8]).flatMap ten ++
        [.recessive]
    (before = [] → f.onLine = false →
      Runs .frameAttemptStart s fun a t =>
        t = { a.heardLine with link.queue := { f with onLine := true } :: after } ∧ t.driven = sent a) ∧
    (f.onLine = true →
      Runs .frameAttemptStart s (fun a t => t = a.heardLine ∧ t.driven = sent a) ∧
      let superseded := f.withdrawn = true ∨ (f.kind = .tally ∧ ∃ g ∈ before ++ after, g.kind = .tally)
      (superseded →
        Runs .arbitrationLost s fun a t =>
          t = { a.heardLine with link.queue := before ++ after } ∧ t.driven = []) ∧
      (¬ superseded →
        Runs .arbitrationLost s fun a t =>
          t = { a.heardLine with link.queue := before ++ { f with onLine := false } :: after } ∧
          t.driven = []))

/-- R53, R65, R83, R129, R131, R136 to R139, R190: a bit error and a dominant spoil slot both spoil the attempt. The
frame waits again up to its third spoil; a fourth is "not sent", and its owner acts: a claim fails with "TRY AGAIN",
an announcement waits for the next walk, the next RECOUNT is produced, a RESTART begins. A fourth successive loss then
takes the link DOWN (R62, R64): the queue that stands then is emptied, and the owners of its frames are told in its order
(the model's choice, notes/assumptions/33.md). On a DOWN link the losses do not run (R140). -/
def Obligations.SpoiledAttempt : Prop :=
  ∀ (cmd : Instr) (before : List TxFrame) (f : TxFrame) (after : List TxFrame) (s : State),
    cmd = .bitError ∨ cmd = .attemptSpoiled →
    s.station.live = true → s.station.Settled → s.station.link.queue = before ++ f :: after →
    (∀ g ∈ before ++ after, g.onLine = false) → (s.station.link.queue.map (·.id)).Nodup → f.onLine = true →
    s.station.link.losses < 4 →
    let superseded := f.withdrawn = true ∨ (f.kind = .tally ∧ ∃ g ∈ before ++ after, g.kind = .tally)
    (superseded → Runs cmd s fun a t => t = { a.heardLine with link.queue := before ++ after }) ∧
    (¬ superseded → f.attempts < 3 →
      Runs cmd s fun a t =>
        t = { a.heardLine with
              link.queue := before ++ { f with onLine := false, attempts := f.attempts + 1 } :: after }) ∧
    (¬ superseded → 3 ≤ f.attempts → s.station.link.up = false → f.kind ∈ [.recall, .report] →
      let lost (a : Station) : Station :=
        { a.heardLine with
          link.queue := before ++ after
          link.framesLost := satInc a.link.framesLost }
      ((f.kind = .report → ∀ w, s.station.orders.restartWait = some w → w.frame ≠ f.id) →
        Runs cmd s fun a t => t = lost a) ∧
      ∀ w, f.kind = .report → s.station.orders.restartWait = some w → w.frame = f.id →
        Runs cmd s fun a t => t = (lost a).ordered) ∧
    (¬ superseded → 3 ≤ f.attempts → s.station.link.up = true →
      let lost (a : Station) : Station :=
        { a.heardLine with
          link.queue := before ++ after
          link.losses := a.link.losses + 1
          link.framesLost := satInc a.link.framesLost }
      let told (act : Station → Station) : Prop :=
        (s.station.link.losses < 3 → Runs cmd s fun a t => t = act (lost a)) ∧
        (s.station.link.losses = 3 → s.station.Room 0 →
          Runs cmd s fun a t =>
            t = toldEmptied (act (lost a)).link.queue (act (lost a)).wentDown)
      (f.kind ∈ [.held, .yield, .free, .recall, .tally] → told fun b => b) ∧
      (f.kind = .claim → f.role = .claim →
        ((∀ d ∈ s.station.claims.claims, d.frame ≠ some f.id) → told fun b => b) ∧
        ∀ c, (s.station.claims.claims.find? fun d => decide (d.frame = some f.id)) = some c →
          told fun b =>
            (({ b with
                claims.claims := b.claims.claims.filter fun d => decide (d.party ≠ c.party)
                claims.failed := satInc b.claims.failed } : Station).freeLocker c.locker).post .tryAgain) ∧
      (∀ n, f.kind = .claim → f.role = .announcement n →
        ({ locker := n, frame := f.id } ∈ s.station.claims.announcements → s.station.Room 1 →
          told fun b =>
            ({ b with
              claims.announcements := b.claims.announcements.filter fun x => decide (x.frame ≠ f.id) } :
              Station).continueWalk) ∧
        ({ locker := n, frame := f.id } ∉ s.station.claims.announcements → told fun b => b)) ∧
      (f.kind = .recount → s.station.Room 1 →
        told fun b => ({ b with directory.recounts := b.directory.recounts - 1 } : Station).produce) ∧
      (f.kind = .report →
        ((∀ w, s.station.orders.restartWait = some w → w.frame ≠ f.id) → told fun b => b) ∧
        ∀ w, s.station.orders.restartWait = some w → w.frame = f.id →
          Runs cmd s fun a t => t = (lost a).ordered))

/-- R49, R54, R65, R66, R83, R131, R141, R190, R197: a recessive spoil slot delivers the frame: it leaves the queue,
the successive losses are 0, and its owner acts: a claim is SENT with its 400 ms window, a CLAIM whose claim has ended
draws a YIELD, an announced holding loses its mark and the walk goes on, one that has ended draws a FREE, the next
RECOUNT is produced, a RESTART begins, and a RECALL sets its mark. On a DOWN link whose recessive span has been seen,
the delivery returns the link to UP, the frame having left the queue (notes/assumptions/34.md), and the announcement
walk offers its frames before RECOUNT production, the model's order (notes/assumptions/35.md). The REPORT of a RESTART
so delivered begins it. -/
def Obligations.OwnFrameDelivered : Prop :=
  ∀ (before : List TxFrame) (f : TxFrame) (after : List TxFrame) (s : State),
    s.station.live = true → s.station.Settled → s.station.link.queue = before ++ f :: after →
    (∀ g ∈ before ++ after, g.onLine = false) → (s.station.link.queue.map (·.id)).Nodup → f.onLine = true →
    let gone (a : Station) : Station :=
      { a.heardLine with link.queue := before ++ after, link.losses := 0 }
    (s.station.link.up = false → f.kind ∈ [.recall, .report] →
      let marked (b : Station) : Station :=
        if f.kind = .recall then { b with restart.recallDelivered := true } else b
      let risen (a : Station) : Station :=
        ({ gone a with link.up := true, link.recessiveSeen := false } : Station).startWalk.produce
      ((f.kind = .report → ∀ w, s.station.orders.restartWait = some w → w.frame ≠ f.id) →
        (s.station.link.recessiveSeen = false → Runs .ownFrameDelivered s fun a t => t = marked (gone a)) ∧
        (s.station.link.recessiveSeen = true → s.station.Room 3 →
          Runs .ownFrameDelivered s fun a t => t = marked (risen a))) ∧
      ∀ w, f.kind = .report → s.station.orders.restartWait = some w → w.frame = f.id →
        (s.station.link.recessiveSeen = false → Runs .ownFrameDelivered s fun a t => t = (gone a).ordered) ∧
        (s.station.link.recessiveSeen = true → Runs .ownFrameDelivered s fun a t => t = (risen a).ordered)) ∧
    (s.station.link.up = true →
      (f.kind ∈ [.held, .yield, .free, .tally] → Runs .ownFrameDelivered s fun a t => t = gone a) ∧
      (f.kind = .recall →
        Runs .ownFrameDelivered s fun a t => t = { gone a with restart.recallDelivered := true }) ∧
      (f.kind = .recount → s.station.Room 1 →
        Runs .ownFrameDelivered s fun a t =>
          t = ({ gone a with directory.recounts := a.directory.recounts - 1 } : Station).produce) ∧
      (f.kind = .report →
        ((∀ w, s.station.orders.restartWait = some w → w.frame ≠ f.id) →
          Runs .ownFrameDelivered s fun a t => t = gone a) ∧
        ∀ w, s.station.orders.restartWait = some w → w.frame = f.id →
          Runs .ownFrameDelivered s fun a t => t = (gone a).ordered) ∧
      (f.kind = .claim →
        (f.role = .claim →
          (∀ c, (s.station.claims.claims.find? fun d => decide (d.frame = some f.id)) = some c →
            Runs .ownFrameDelivered s fun a t =>
              t = { gone a with
                    claims.claims :=
                      updateWhere (fun d => decide (d.party = c.party))
                        (fun d => { d with state := .sent (a.now + 400) }) a.claims.claims }) ∧
          ∀ (p : PartyKey) (l : Nat) (b : BitVec 24) (z : Size), l ≤ 60 → f.content = claimContent p l b z →
            (∀ d ∈ s.station.claims.claims, d.frame ≠ some f.id) → s.station.Room 0 →
            Runs .ownFrameDelivered s fun a t =>
              t = (gone a).offer .yield (partyBytes p ++ [oneByte l]) .claimUnit .plain) ∧
        ∀ n, f.role = .announcement n →
          ({ locker := n, frame := f.id } ∈ s.station.claims.announcements → s.station.Room 1 →
            Runs .ownFrameDelivered s fun a t =>
              t = ({ gone a with
                    claims.announcements := a.claims.announcements.filter fun x => decide (x.frame ≠ f.id)
                    lockers.holdings :=
                      updateWhere (fun h => decide (h.locker = n)) (fun h => { h with unannounced := false })
                        a.lockers.holdings } : Station).continueWalk) ∧
          ∀ (p : PartyKey) (l : Nat) (b : BitVec 24) (z : Size), f.content = claimContent p l b z →
            { locker := n, frame := f.id } ∉ s.station.claims.announcements → s.station.Room 0 →
            Runs .ownFrameDelivered s fun a t =>
              t = (gone a).offer .free (partyBytes p ++ [oneByte n]) .claimUnit .plain))

/-- R127, R130, R132: a frame read to its end whose check differs has its spoil slot driven dominant, which is counted;
one that is spoiled by another, one that is broken off, and one that goes to no block have it left recessive, and change
nothing but that and the dominant watch. R62, R64, R139 to R142: 20 ms of dominant line take the link DOWN, in a warm
start too, and empty the queue, whose owners are told in its order (the model's choice, notes/assumptions/33.md): a
QUEUED claim is confirmed (ClaimWindow says how). 20 ms of recessive line and then a delivered frame take it UP, when the
announcement walk starts and RECOUNT production goes on, in this order (the model's choice, notes/assumptions/35.md);
that a received frame or an ORDER is taken by its blocks after this, and so acts as on a link that is UP, is the model's
choice too (notes/assumptions/29.md). -/
def Obligations.LineRows : Prop :=
  (∀ s : State, s.station.live = true →
     (∀ bytes check,
       (check = frameCheck bytes → Runs (.frameSpoiled bytes check) s fun a t =>
         t = a.heardLine ∧ ((∀ f ∈ a.link.queue, f.onLine = false) → t.driven = [])) ∧
       (∀ first length content, bytes = first :: length :: content → check ≠ frameCheck bytes →
         (length.toNat ≤ 12 → content.length = length.toNat →
           Runs (.frameSpoiled bytes check) s fun a t =>
             t = { a.heardLine with
                   link.spoilSlot := .dominant
                   link.spoilsDriven :=
                     if a.link.spoilsDriven = 65535 then 65535 else a.link.spoilsDriven + 1 } ∧
             ((∀ f ∈ a.link.queue, f.onLine = false) → t.driven = [.dominant])) ∧
         (12 < length.toNat ∨ content.length ≠ length.toNat →
           Runs (.frameSpoiled bytes check) s fun a t => t = a.heardLine))) ∧
     (∀ why, Runs (.frameBroken why) s fun a t => t = a.heardLine) ∧
     ∀ sender kind content, s.station.link.up = true → s.station.Settled →
       Runs (.frameDiscarded sender kind content) s fun a t => t = a.heardLine) ∧
  (∀ (cause : StartCause) (s : State), s.station.restart.phase = .warm cause → s.station.link.queue = [] →
    s.station.Settled →
    (s.station.link.up = true →
      Runs .dominantWatchExpiry s fun a t =>
        t = { a.heardLine with
              link.up := false
              link.losses := 0
              link.dominantWatch := 20
              link.recessiveSeen := false
              directory.recounts := 0
              claims.announcements := []
              claims.walk := none }) ∧
    (s.station.link.up = false →
      Runs .dominantWatchExpiry s (fun a t =>
        t = { a.heardLine with link.dominantWatch := 20, link.recessiveSeen := false }) ∧
      Runs .recessiveSpan s (fun a t => t = { a.heardLine with link.recessiveSeen := true }))) ∧
  ∀ s : State, s.station.live = true → s.station.Settled →
    (s.station.link.up = true → s.station.Room 0 →
      Runs .dominantWatchExpiry s fun a t =>
        t = toldEmptied a.link.queue
          ({ a.heardLine with link.dominantWatch := 20 } : Station).wentDown) ∧
    (∀ cmd, hearsFrame cmd ∨ (orderRow cmd).isSome = true →
      s.station.link.up = false → s.station.link.recessiveSeen = true →
      exec cmd s =
        exec cmd
          { s with
            station :=
              ({ s.station.heardLine with link.up := true, link.losses := 0, link.recessiveSeen := false } :
                Station).startWalk.produce }) ∧
    (s.station.link.up = false →
      Runs .dominantWatchExpiry s (fun a t =>
        t = { a.heardLine with link.dominantWatch := 20, link.recessiveSeen := false }) ∧
      Runs .recessiveSpan s (fun a t => t = { a.heardLine with link.recessiveSeen := true })) ∧
    (s.station.link.up = true → Runs .recessiveSpan s fun a t => t = a.heardLine) ∧
    ∀ sender kind content, s.station.link.up = false →
      (s.station.link.recessiveSeen = false →
        Runs (.frameDiscarded sender kind content) s fun a t => t = a.heardLine) ∧
      (s.station.link.recessiveSeen = true → s.station.claims.announcements = [] →
        (∀ h ∈ s.station.lockers.holdings, h.unannounced = false) →
        (∀ e ∈ s.station.directory.cache, e.recountDue = false) →
        Runs (.frameDiscarded sender kind content) s fun a t =>
          t = { a.heardLine with
                link.up := true, link.losses := 0, link.recessiveSeen := false, claims.walk := none }) ∧
      (s.station.link.recessiveSeen = true → s.station.Room 4 →
        Runs (.frameDiscarded sender kind content) s fun a t =>
          t = ({ a.heardLine with link.up := true, link.losses := 0, link.recessiveSeen := false } :
            Station).startWalk.produce)

/-! ### Received frames (chapters 3, 4, 6 and 12) -/

/-- R71, R72, R78: how the directory keeps its facts and its redirects. Which of two records of one earliest moment
leaves a full list is the model's choice: the one that stands first (notes/assumptions/36.md). -/
def Obligations.DirectoryKeeps : Prop :=
  ∀ s : Station,
    (∀ p x l b,
      let fact : DirectoryEntry :=
        { party := p, holder := x, locker := l, serial := b, doubtful := false, recountDue := false }
      let others := s.directory.cache.filter fun e => decide (e.party ≠ p)
      ((∃ e ∈ s.directory.cache, e.party = p) →
        s.learn p x l b = { s with directory.cache := others ++ [fact] }) ∧
      ((∀ e ∈ s.directory.cache, e.party ≠ p) → s.directory.cache.length < 128 →
        s.learn p x l b = { s with directory.cache := s.directory.cache ++ [fact] }) ∧
      ∀ oldest rest, (∀ e ∈ s.directory.cache, e.party ≠ p) → s.directory.cache = oldest :: rest →
        s.directory.cache.length = 128 →
        s.learn p x l b = { s with directory.cache := rest ++ [fact] }) ∧
    (∀ p e, s.entryOf p = some e →
      s.touchEntry p =
        { s with
          directory.cache := (s.directory.cache.filter fun d => decide (d.party ≠ p)) ++ [e] }) ∧
    ∀ b m,
      ((∃ r ∈ s.directory.redirects, r.serial = b) →
        s.recordRedirect b m =
          { s with
            directory.redirects :=
              updateWhere (fun r => decide (r.serial = b)) (fun r => { r with moment := m })
                s.directory.redirects }) ∧
      ((∀ r ∈ s.directory.redirects, r.serial ≠ b) →
        (s.directory.redirects.length < 16 →
          s.recordRedirect b m =
            { s with directory.redirects := s.directory.redirects ++ [{ serial := b, moment := m }] }) ∧
        ∀ before r after, s.directory.redirects = before ++ r :: after → 16 ≤ s.directory.redirects.length →
          (∀ x ∈ before, r.moment < x.moment) → (∀ x ∈ after, r.moment ≤ x.moment) →
          s.recordRedirect b m =
            { s with directory.redirects := before ++ after ++ [{ serial := b, moment := m }] })

/-- R57 to R59, R63, R75: a HELD is learned, fails a claim of its party with a redirect, and marks a holding of its
party DOUBLE once. On a DOWN link the SENT claim fails so too, and no YIELD is made. -/
def Obligations.HeldReceived : Prop :=
  ∀ (sender : BitVec 5) (p : PartyKey) (l claimer : Byte) (s : State),
    s.station.Ready → sender.toNat ≠ s.station.restart.station → 1 ≤ sender.toNat → sender.toNat ≤ 27 →
    1 ≤ l.toNat → l.toNat ≤ 60 →
    let cmd : Instr := .heldReceived sender (partyBytes p ++ [l, claimer])
    let learned (a : Station) : Station :=
      a.heardLine.learn p sender.toNat l.toNat
        (match a.entryOf p with
          | some e => e.serial
          | none => 0)
    let redirected (c : Claim) (b : Station) : Station :=
      ((({ b with
          claims.claims := b.claims.claims.filter fun d => decide (d.party ≠ p) } : Station).freeLocker
        c.locker).post (.goToBank sender.toNat l.toNat)).recordRedirect c.serial b.now
    (∀ c w, s.station.claimOf p = some c → c.state = .sent w →
      (s.station.link.up = true → s.station.Room 1 →
        Runs cmd s fun a t =>
          t = { redirected c
                  ((learned a).offer .yield (partyBytes p ++ [oneByte c.locker]) .claimUnit .plain) with
                claims.yielded := satInc a.claims.yielded }) ∧
      (s.station.link.up = false →
        Runs cmd s fun a t =>
          t = { redirected c (learned a) with claims.yielded := satInc a.claims.yielded })) ∧
    (∀ c, s.station.claimOf p = some c → c.state = .queued →
      Runs cmd s fun a t =>
        t = { redirected c (match c.frame with
                | some id => (learned a).withdrawFrame id
                | none => learned a) with
              claims.failed := satInc a.claims.failed }) ∧
    (s.station.claimOf p = none →
      (s.station.holdingOf p = none → Runs cmd s fun a t => t = learned a) ∧
      ∀ h, s.station.holdingOf p = some h →
        (h.double = true → Runs cmd s fun a t => t = learned a) ∧
        (h.double = false →
          Runs cmd s fun a t =>
            t = ({ learned a with lockers.doubles := satInc a.lockers.doubles } : Station).changeHolding h.locker
              fun h => { h with double := true }))

/-- R77: a YIELD or a FREE deletes the party's entry where it names the sender, and changes nothing else. -/
def Obligations.YieldAndFreeReceived : Prop :=
  ∀ (cmd : Instr) (sender : BitVec 5) (p : PartyKey) (l : Byte) (s : State),
    cmd = .yieldReceived sender (partyBytes p ++ [l]) ∨ cmd = .freeReceived sender (partyBytes p ++ [l]) →
    s.station.Ready → sender.toNat ≠ s.station.restart.station →
    (∀ e, s.station.entryOf p = some e → e.holder = sender.toNat →
      Runs cmd s fun a t =>
        t = { a.heardLine with
              directory.cache := a.directory.cache.filter fun d => decide (d.party ≠ p) }) ∧
    (∀ e, s.station.entryOf p = some e → e.holder ≠ sender.toNat → Runs cmd s fun a t => t = a.heardLine) ∧
    (s.station.entryOf p = none → Runs cmd s fun a t => t = a.heardLine)

/-- R42, R55, R56, R63, R74: a peer's CLAIM is learned; a QUEUED claim of its party fails with a redirect, and a SENT
claim or a holding of its party draws a HELD while the link is UP, and none while it is DOWN. -/
def Obligations.ClaimReceived : Prop :=
  ∀ (sender : BitVec 5) (p : PartyKey) (l b0 b1 b2 size : Byte) (s : State),
    s.station.Ready → sender.toNat ≠ s.station.restart.station → 1 ≤ sender.toNat → sender.toNat ≤ 27 →
    1 ≤ l.toNat → l.toNat ≤ 60 →
    let cmd : Instr := .claimReceived sender (partyBytes p ++ [l, b0, b1, b2, size])
    let learned (a : Station) : Station := a.heardLine.learn p sender.toNat l.toNat (b0 ++ b1 ++ b2)
    (∀ c, s.station.claimOf p = some c → c.state = .queued →
      Runs cmd s fun a t =>
        let b :=
          match c.frame with
          | some id => (learned a).withdrawFrame id
          | none => learned a
        t = ((({ b with
              claims.claims := a.claims.claims.filter fun d => decide (d.party ≠ p)
              claims.failed := satInc a.claims.failed } : Station).freeLocker c.locker).post
            (.goToBank sender.toNat l.toNat)).recordRedirect c.serial a.now) ∧
    (∀ c w, s.station.claimOf p = some c → c.state = .sent w →
      (s.station.link.up = true → s.station.Room 1 →
        Runs cmd s fun a t =>
          t = (learned a).offer .held (partyBytes p ++ [oneByte c.locker, oneByte sender.toNat]) .claimUnit
            .plain) ∧
      (s.station.link.up = false → Runs cmd s fun a t => t = learned a)) ∧
    (s.station.claimOf p = none →
      (s.station.holdingOf p = none → Runs cmd s fun a t => t = learned a) ∧
      ∀ h, s.station.holdingOf p = some h →
        (s.station.link.up = true → s.station.Room 1 →
          Runs cmd s fun a t =>
            t = (learned a).offer .held (partyBytes p ++ [oneByte h.locker, oneByte sender.toNat]) .lockerTable
              .plain) ∧
        (s.station.link.up = false → Runs cmd s fun a t => t = learned a))

/-- R76, R198: a RECOUNT that names another station is learned; one that names this station rebuilds the holding
of an ORPHAN locker, and is otherwise ignored. -/
def Obligations.RecountReceived : Prop :=
  ∀ (sender : BitVec 5) (x : Byte) (p : PartyKey) (l b0 b1 b2 : Byte) (s : State),
    s.station.Ready → sender.toNat ≠ s.station.restart.station →
    let serial : BitVec 24 := b0 ++ b1 ++ b2
    let cmd : Instr := .recountReceived sender ([x] ++ partyBytes p ++ [l, b0, b1, b2])
    let rebuilds : Prop :=
      serial ≠ 0 ∧ serial ≠ 16777215 ∧ s.station.lockerState l.toNat = some .orphan ∧
        s.station.holdingOf p = none ∧ s.station.claimOf p = none
    let rebuilt (forced : Bool) (a : Station) : Station :=
      { a.heardLine with
        lockers.holdings :=
          a.lockers.holdings ++
            [{ locker := l.toNat, party := p, serial, start := a.lockers.minute, openings := 0,
               overstay := false, double := false, unannounced := false, recovered := true, forced }] }
    (x.toNat ≠ s.station.restart.station →
      (1 ≤ x.toNat ∧ x.toNat ≤ 27 ∧ 1 ≤ l.toNat ∧ l.toNat ≤ 60 →
        Runs cmd s fun a t => t = a.heardLine.learn p x.toNat l.toNat serial) ∧
      (¬ (1 ≤ x.toNat ∧ x.toNat ≤ 27 ∧ 1 ≤ l.toNat ∧ l.toNat ≤ 60) → Runs cmd s fun a t => t = a.heardLine)) ∧
    (x.toNat = s.station.restart.station →
      (¬ rebuilds → Runs cmd s fun a t => t = a.heardLine) ∧
      (rebuilds → s.station.doorClosed l.toNat = true →
        Runs cmd s fun a t => t = (rebuilt false a).lockLocker l.toNat) ∧
      (rebuilds → s.station.doorClosed l.toNat = false →
        Runs cmd s fun a t => t = (rebuilt true a).settleLocker l.toNat .opened))

/-- R81, R82: a RECALL marks the entries that name its sender, and those marked stay marked; while fewer than two
RECOUNTs stand in the queue, the marked entry nearest the oldest end loses its mark and, unless its band is 0, is
queued as a RECOUNT, until no mark is left; on a DOWN link the marks stand and no RECOUNT is made. A RECALL that carries
this station's own number marks nothing. -/
def Obligations.RecallReceived : Prop :=
  (∀ (sender : BitVec 5) (content : List Byte) (s : State), s.station.Ready →
    (sender.toNat = s.station.restart.station →
      Runs (.recallReceived sender content) s fun a t => t = a.heardLine) ∧
    (sender.toNat ≠ s.station.restart.station → s.station.Room 2 →
      Runs (.recallReceived sender content) s fun a t =>
        t = ({ a.heardLine with
              directory.cache :=
                a.directory.cache.map fun e =>
                  if e.holder = sender.toNat then { e with recountDue := true } else e } : Station).produce)) ∧
  ∀ s : Station,
    (2 ≤ s.directory.recounts ∨ s.link.up = false ∨ (∀ e ∈ s.directory.cache, e.recountDue = false) →
      s.produce = s) ∧
    ∀ before e after, s.directory.recounts < 2 → s.link.up = true → s.directory.cache = before ++ e :: after →
      s.directory.cache.length ≤ 128 → (s.directory.cache.map (·.party)).Nodup →
      (∀ d ∈ before, d.recountDue = false) → e.recountDue = true →
      let cleared : Station :=
        { s with directory.cache := before ++ { e with recountDue := false } :: after }
      (e.serial = 0 → s.produce = cleared.produce) ∧
      (e.serial ≠ 0 →
        s.produce =
          ({ cleared.offer .recount
              ([oneByte e.holder] ++ partyBytes e.party ++ [oneByte e.locker] ++ threeBytes e.serial) .directory
              .plain with directory.recounts := s.directory.recounts + 1 } : Station).produce)

/-- R114: a TALLY in range overwrites its sender's entry, fresh; one out of range is ignored. -/
def Obligations.TallyReceived : Prop :=
  ∀ (sender : BitVec 5) (zone std lrg q w1 w0 mode flags : Byte) (s : State),
    s.station.Ready → sender.toNat ≠ s.station.restart.station →
    let wait : Nat := 256 * w1.toNat + w0.toNat
    let cmd : Instr := .tallyReceived sender [zone, std, lrg, q, w1, w0, mode, flags]
    let accepted : Prop :=
      1 ≤ sender.toNat ∧ sender.toNat ≤ 27 ∧ zone.toNat ≤ 7 ∧ std.toNat + lrg.toNat ≤ 60 ∧ q.toNat ≤ 16 ∧
        (wait ≤ 30600 ∨ wait = 65535) ∧ mode.toNat ≤ 2
    (accepted →
      Runs cmd s fun a t =>
        t = { a.heardLine with
              tally.neighbours :=
                updateWhere (fun n => decide (n.station = sender.toNat))
                  (fun _ =>
                    { station := sender.toNat
                      zone := zone.toNat
                      freeStandard := std.toNat
                      freeLarge := lrg.toNat
                      queue := q.toNat
                      wait
                      mode := if mode = 0 then .unset else if mode = 1 then .recovering else .run
                      driveHold := flags.getLsbD 0
                      heardAt := a.now
                      aged := false
                      heard := true }) a.tally.neighbours }) ∧
    (¬ accepted → Runs cmd s fun a t => t = a.heardLine) ∧
    ∀ content, content.length ≠ 8 → Runs (.tallyReceived sender content) s fun a t => t = a.heardLine

/-! ### Orders (chapter 11, and the orders' own rules in chapters 2, 5 and 8) -/

/-- R132, R179 to R181, R190: an ORDER from a bank station or for another station has no effect; one that meets a
waiting RESTART, too few parameter bytes, a bad code, a mode other than RUN, a service or object byte that is not coded,
or a locker or a cabin that is not there draws its refusal and has no other effect. FIND PARTY too is refused while a
RESTART waits (notes/assumptions/17.md), and draws no answer in UNSET or for a kind byte that is not coded (R189). -/
def Obligations.OrdersTurnedAway : Prop :=
  ∀ (cmd : Instr) (code : Byte) (o : OrderFrame) (s : State),
    orderRow cmd = some (code, o) → s.station.Ready →
    (o.sender.toNat < 28 ∨ (o.target.toNat ≠ 0 ∧ o.target.toNat ≠ s.station.restart.station) →
      Runs cmd s fun a t => t = a.heardLine) ∧
    (28 ≤ o.sender.toNat → o.target.toNat = 0 ∨ o.target.toNat = s.station.restart.station →
      s.station.orders.restartWait.isSome = true → s.station.Room 1 →
      Runs cmd s fun a t => t = a.heardLine.reported o code 2 (reportPage code o 0) []) ∧
    (s.station.Takes o → s.station.Room 1 →
      (1 ≤ code.toNat → code.toNat ≤ 13 → (∀ c q, cmd ≠ .orderBadCode c q) →
        o.params.length < paramsNeeded code →
        Runs cmd s fun a t => t = a.heardLine.reported o code 3 (reportPage code o 0) []) ∧
      (cmd = .orderBadCode code o → ¬ (1 ≤ code.toNat ∧ code.toNat ≤ 13) →
        Runs cmd s fun a t => t = a.heardLine.reported o code 6 0 []) ∧
      (s.station.restart.mode ≠ .run → 3 ≤ code.toNat → code.toNat ≤ 8 → (∀ c q, cmd ≠ .orderBadCode c q) →
        paramsNeeded code ≤ o.params.length →
        Runs cmd s fun a t => t = a.heardLine.reported o code 2 0 []) ∧
      (s.station.restart.mode = .run →
        (∀ n b rest, o.params = n :: b :: rest →
          (cmd ∈ [.lockerServiceOff o, .lockerServiceOn o, .cabinServiceOff o, .cabinServiceOn o] ∧ 2 ≤ b.toNat) ∨
              (cmd ∈ [.clearFaultLocker o, .clearFaultCabin o, .clearFaultGroup o] ∧ 3 ≤ n.toNat) →
            Runs cmd s fun a t => t = a.heardLine.reported o code 3 0 []) ∧
        ∀ n : Byte,
          (n.toNat = 0 ∨ s.station.orders.setup.lockerCount < n.toNat →
            (∃ rest,
              (o.params = n :: rest ∧ cmd ∈ [.openLocker o, .endHolding o]) ∨
              (o.params = n :: 0 :: rest ∧ cmd = .lockerServiceOff o) ∨
              (o.params = n :: 1 :: rest ∧ cmd = .lockerServiceOn o) ∨
              (o.params = 0 :: n :: rest ∧ cmd = .clearFaultLocker o)) →
            Runs cmd s fun a t => t = a.heardLine.reported o code 6 0 []) ∧
          (n.toNat = 0 ∨ s.station.orders.setup.cabinCount < n.toNat →
            (∃ rest,
              (o.params = n :: 0 :: rest ∧ cmd = .cabinServiceOff o) ∨
              (o.params = n :: 1 :: rest ∧ cmd = .cabinServiceOn o) ∨
              (o.params = 1 :: n :: rest ∧ cmd = .clearFaultCabin o)) →
            Runs cmd s fun a t => t = a.heardLine.reported o code 6 0 [])) ∧
      (cmd = .findParty o → ∀ k rest, o.params = k :: rest → 4 ≤ o.params.length →
        s.station.restart.mode = .unset ∨ 2 ≤ k.toNat → Runs cmd s fun a t => t = a.heardLine))

/-- R159, R181, R183: SETUP LOCKERS; accepted second, it takes the station to RECOVERING. What that entry makes rests
on the model's choices: occupancy start 0 of a FREE cabin (notes/assumptions/39.md), unlatch requests in cabin order
(40.md), the levels before the filters are loaded (43.md), RECALL offered before the order's REPORT (45.md). -/
def Obligations.SetupLockers : Prop :=
  ∀ (o : OrderFrame) (n large day s1 s0 door pull hold filter : Byte) (rest : List Byte) (s : State),
    s.station.Ready → s.station.Takes o → s.station.Room 2 →
    o.params = [n, large, day, s1, s0, door, pull, hold, filter] ++ rest →
    let limit : Nat := 256 * s1.toNat + s0.toNat
    let accepted (a : Station) : Station :=
      { a.heardLine with
        orders.lockersLockClosed := true
        orders.setup :=
          { a.orders.setup with
            lockerCount := min n.toNat 60
            largeCount := min large.toNat (min n.toNat 60)
            dayCode := day
            sessionLimit := if limit = 0 then 0 else max 30 (min limit 720)
            doorWait := if door.toNat = 0 then 15 else max 5 (min door.toNat 30)
            pullTime := max 20 (min pull.toNat 200)
            holdDuty := max 10 (min hold.toNat 60)
            filterInterval :=
              if filter.toNat ≤ 1 then 1 else if filter.toNat ≤ 3 then 2
              else if filter.toNat ≤ 7 then 4 else 8 } }
    (s.station.restart.mode ≠ .unset ∨ s.station.orders.lockersLockClosed = true →
      Runs (.setupLockers o) s fun a t => t = a.heardLine.reported o 1 4 0 []) ∧
    (s.station.restart.mode = .unset → s.station.orders.lockersLockClosed = false →
      (n.toNat = 0 → Runs (.setupLockers o) s fun a t => t = a.heardLine.reported o 1 3 0 []) ∧
      (1 ≤ n.toNat → s.station.orders.cabinsLockClosed = false →
        Runs (.setupLockers o) s fun a t => t = (accepted a).reported o 1 0 0 []) ∧
      (1 ≤ n.toNat → s.station.orders.cabinsLockClosed = true →
        Runs (.setupLockers o) s fun a t => t = (accepted a).recovered.reported o 1 0 0 []))

/-- R45, R85, R117, R184, R193, R197: SETUP CABINS, accepted second: the station enters RECOVERING, lockers are
classified, cabins are created, RECALL is queued and the 3 s window starts. That entry rests on the model's choices:
occupancy start 0 of a FREE cabin (notes/assumptions/39.md), unlatch requests in cabin order (40.md), the levels before
the filters are loaded (43.md), RECALL offered before the order's REPORT (45.md). -/
def Obligations.SetupCabins : Prop :=
  ∀ (o : OrderFrame) (n limit grace vacate penalty margin d1 d0 : Byte) (rest : List Byte) (s : State),
    s.station.Ready → s.station.Takes o → s.station.Room 2 →
    o.params = [n, limit, grace, vacate, penalty, margin, d1, d0] ++ rest →
    let dwell : Nat := max 30 (min (256 * d1.toNat + d0.toNat) 1800)
    let accepted (a : Station) : Station :=
      { a.heardLine with
        orders.cabinsLockClosed := true
        orders.setup :=
          { a.orders.setup with
            cabinCount := min n.toNat 8
            cabinLimit := max 5 (min limit.toNat 30)
            grace := max 15 (min grace.toNat 120)
            vacateTime := if vacate.toNat = 0 then 10 else max 5 (min vacate.toNat 30)
            walkPenalty := penalty.toNat
            margin := margin.toNat
            initialDwell := dwell }
        cabins.dwell := dwell }
    (s.station.restart.mode ≠ .unset ∨ s.station.orders.cabinsLockClosed = true →
      Runs (.setupCabins o) s fun a t => t = a.heardLine.reported o 2 4 0 []) ∧
    (s.station.restart.mode = .unset → s.station.orders.cabinsLockClosed = false →
      s.station.orders.lockersLockClosed = false →
      Runs (.setupCabins o) s fun a t => t = (accepted a).reported o 2 0 0 []) ∧
    (s.station.restart.mode = .unset → s.station.orders.cabinsLockClosed = false →
      s.station.orders.lockersLockClosed = true →
      Runs (.setupCabins o) s fun a t =>
        t = (accepted a).recovered.reported o 2 0 0 [])

/-- R185, R186: SET DAY replaces the day code in RUN; READ COUNTERS page 0 takes the snapshot and sets taps since
read to 0; pages 1 and 2 answer from the snapshot, page 2 with the reset cause and the drive status live. -/
def Obligations.DayAndCounters : Prop :=
  ∀ (o : OrderFrame) (x : Byte) (rest : List Byte) (s : State),
    s.station.Ready → s.station.Takes o → s.station.Room 2 → o.params = x :: rest →
    (s.station.restart.mode = .run →
      Runs (.setDay o) s fun a t =>
        t = ({ a.heardLine with orders.setup.dayCode := x } : Station).reported o 3 0 0 []) ∧
    (s.station.restart.mode ≠ .run → Runs (.setDay o) s fun a t => t = a.heardLine.reported o 3 2 0 []) ∧
    (x = 0 →
      Runs (.takeCountersSnapshot o) s fun a t =>
        t = (({ a.heardLine with
              taps.sinceRead := 0
              orders.snapshot :=
                { accepted := a.taps.accepted
                  refused := a.taps.refused
                  sinceRead := a.taps.sinceRead
                  confirmed := a.claims.confirmed
                  yielded := a.claims.yielded
                  failed := a.claims.failed
                  doubles := a.lockers.doubles
                  jams := a.drive.jams
                  forcedDoors := a.lockers.forcedDoors
                  framesLost := a.link.framesLost
                  spoilsDriven := a.link.spoilsDriven
                  missed := a.cabins.missed } } : Station).reported o 9 1 0
            (fourBytes a.taps.accepted ++ twoBytes a.taps.refused)).reported o 9 1 1
          (twoBytes a.taps.sinceRead)) ∧
    (x = 1 →
      Runs (.readCounters o) s fun a t =>
        let k := a.orders.snapshot
        t = (a.heardLine.reported o 9 1 4
          (twoBytes k.confirmed ++ twoBytes k.yielded ++ twoBytes k.failed)).reported o 9 1 5
          (twoBytes k.doubles)) ∧
    (x = 2 →
      Runs (.readCounters o) s fun a t =>
        let k := a.orders.snapshot
        let status : Byte :=
          a.drive.latches.setWidth 8 + if a.restart.holdDown then 16 else 0
        t = (a.heardLine.reported o 9 1 8
          (twoBytes k.jams ++ twoBytes k.forcedDoors ++ twoBytes k.framesLost)).reported o 9 1 9
          (twoBytes k.spoilsDriven ++ twoBytes k.missed ++
            [match a.restart.cause with
              | .powerOn => 0
              | .supplyLow => 1
              | .resetLine => 2
              | .ordered => 3
              | .retentionBad => 4,
             a.restart.warmStarts, status])) ∧
    (2 < x.toNat → Runs (.readCounters o) s fun a t => t = a.heardLine.reported o 9 3 (reportPage 9 o 0) [])

/-- R187 to R189: a read queues its parts and changes nothing else: READ LOCKER's three for a locker in any state,
with its holding or its claim; READ CABINS's for page 0, a cabin and a place of the queue; FIND PARTY's for a holder.
The seconds since joining saturate as the elapsed seconds do (notes/assumptions/37.md), and the seconds to a grace end
that the clock has passed are a free value (notes/assumptions/44.md). -/
def Obligations.Reads : Prop :=
  ∀ (o : OrderFrame) (x : Byte) (rest : List Byte) (s : State),
    s.station.Ready → s.station.Takes o → s.station.Room 3 → o.params = x :: rest →
    let place (st : LockerState) : Byte :=
      match st with
      | .free => 1
      | .claiming => 2
      | .unbolting => 3
      | .unbolted => 4
      | .opened => 5
      | .locked => 6
      | .unsecured => 7
      | .jammed => 8
      | .orphan => 9
      | .outOfService => 10
    let driveBytes (r : Option DriveRequest) : Byte × Byte × Byte :=
      match r with
      | none => (0, 0, 0)
      | some r =>
        match r.phase with
        | .waiting => (1, oneByte r.attempt, 0)
        | .pull _ _ => (2, oneByte r.attempt, 1)
        | .rest _ => (3, oneByte r.attempt, 0)
        | .hold => (4, oneByte r.attempt, 2)
    (s.station.restart.mode = .unset →
      Runs (.readLocker o) s (fun a t => t = a.heardLine.reported o 10 2 0 []) ∧
      Runs (.readCabins o) s (fun a t => t = a.heardLine.reported o 11 2 (reportPage 11 o 0) [])) ∧
    (s.station.restart.mode ≠ .unset →
      (x.toNat = 0 ∨ s.station.orders.setup.lockerCount < x.toNat →
        Runs (.readLocker o) s fun a t => t = a.heardLine.reported o 10 6 0 []) ∧
      (1 ≤ x.toNat → x.toNat ≤ s.station.orders.setup.lockerCount →
        ∀ l, s.station.locker? x.toNat = some l →
          Runs (.readLocker o) s fun a t =>
            let drive := driveBytes (a.request? (x.toNat - 1))
            let body : List Byte × List Byte :=
              match a.holdingAt x.toNat, a.claimAt x.toNat with
              | some h, _ =>
                ([(if h.overstay then 1 else 0) + (if h.double then 2 else 0) +
                    (if h.unannounced then 4 else 0) + (if h.recovered then 8 else 0) +
                    (if h.forced then 16 else 0), h.openings] ++ twoBytes h.start,
                  partyBytes h.party ++ threeBytes h.serial)
              | none, some c =>
                if l.state = .claiming then
                  ([match c.state with
                      | .queued => 1
                      | .sent _ => 2, c.joined, if c.insist then 1 else 0, 0],
                    partyBytes c.party ++ threeBytes c.serial)
                else ([0, 0, 0, 0], [0, 0, 0, 0, 0, 0, 0])
              | none, none => ([0, 0, 0, 0], [0, 0, 0, 0, 0, 0, 0])
            t = ((a.heardLine.reported o 10 1 0
              ([place l.state, if l.size = .large then 1 else 0,
                (if a.doorClosed x.toNat then 0 else 1) + (if a.boltEngaged x.toNat then 0 else 2) +
                  (if l.forced then 4 else 0)] ++ twoBytes l.wear ++
                [match l.purpose with
                  | none => (0 : Byte)
                  | some .first => 1
                  | some .retrieve => 2
                  | some .attendant => 3,
                 match l.returnState with
                  | none => (0 : Byte)
                  | some st => place st])).reported o 10 1 1
              ([drive.1, drive.2.1, drive.2.2] ++ body.1)).reported o 10 1 2 body.2) ∧
      (x = 0 →
        Runs (.readCabins o) s fun a t =>
          t = a.heardLine.reported o 11 1 0
            ([oneByte a.orders.setup.cabinCount, oneByte a.cabins.queue.length,
              oneByte (a.cabins.cabins.filter fun c =>
                decide (c.state ≠ .outOfService ∧ c.state ≠ .fault)).length] ++
              twoBytes (BitVec.ofNat 16 a.cabins.dwell) ++
              [oneByte (a.cabins.cabins.filter fun c => decide (c.state = .free)).length,
               if a.cabins.cabins.any (·.overstay) then 1 else 0])) ∧
      (24 < x.toNat → Runs (.readCabins o) s fun a t => t = a.heardLine.reported o 11 3 (reportPage 11 o 0) []) ∧
      (1 ≤ x.toNat → x.toNat ≤ 8 → s.station.orders.setup.cabinCount < x.toNat →
        Runs (.readCabins o) s fun a t => t = a.heardLine.reported o 11 6 (4 * x) []) ∧
      (1 ≤ x.toNat → x.toNat ≤ 8 → x.toNat ≤ s.station.orders.setup.cabinCount →
        ∀ c, s.station.cabin? x.toNat = some c →
          Runs (.readCabins o) s fun a t =>
            let drive := driveBytes (a.request? (59 + x.toNat))
            t = (a.heardLine.reported o 11 1 (4 * x)
              [match c.state with
                | .free => 1
                | .reserved => 2
                | .admitting => 3
                | .occupied => 4
                | .outOfService => 5
                | .fault => 6,
               if c.latchPosition = .latched then 1 else 0,
               match c.latchTarget with
                | none => 0
                | some .latched => 1
                | some .unlatched => 2,
               match c.presence with
                | .clear => 0
                | .seen => 1
                | .confirmed => 2,
               (if c.overstay then 1 else 0) + (if c.latchMoving then 2 else 0), drive.1, drive.2.1]).reported o
              11 1 (4 * x + 1)
              (threeBytes (c.occupant.getD 0) ++ twoBytes (if c.state = .occupied then c.seconds else 0) ++
                [match c.reservedFor with
                  | none => 0
                  | some b =>
                    oneByte ((a.cabins.queue.takeWhile fun e => decide (e.serial ≠ b)).length + 1),
                 drive.2.2])) ∧
      (∀ e, 9 ≤ x.toNat → x.toNat ≤ 24 → s.station.cabins.queue[x.toNat - 9]? = some e →
        Runs (.readCabins o) s fun a t =>
          t = (a.heardLine.reported o 11 1 (4 * x) (threeBytes e.serial ++ partyBytes e.party)).reported o 11 1
            (4 * x + 1)
            ((match e.state with
                | .waiting => [1, 0]
                | .reserved c => [2, oneByte c]) ++ twoBytes e.seconds ++
              twoBytes (match e.graceEnd with
                | some g =>
                  if (g - a.cabins.clock).toNat < 32768 then g - a.cabins.clock
                  else Config.pastGrace g a.cabins.clock
                | none => 0))) ∧
      (9 ≤ x.toNat → x.toNat ≤ 24 → s.station.cabins.queue.length ≤ x.toNat - 9 →
        Runs (.readCabins o) s fun a t => t = a.heardLine.reported o 11 2 (reportPage 11 o 0) []) ∧
      ∀ b1 b2 b3 rest', rest = b1 :: b2 :: b3 :: rest' → x.toNat ≤ 1 →
        let p : PartyKey := ⟨if x = 0 then .family else .solo, b1 ++ b2 ++ b3⟩
        (s.station.holdingOf p = none → Runs (.findParty o) s fun a t => t = a.heardLine) ∧
        ∀ h l, s.station.holdingOf p = some h → s.station.locker? h.locker = some l →
          Runs (.findParty o) s fun a t =>
            t = a.heardLine.reported o 12 1 0
              ([oneByte h.locker, l.state.code,
                (if h.overstay then 1 else 0) + (if h.double then 2 else 0) +
                  (if h.unannounced then 4 else 0) + (if h.recovered then 8 else 0) +
                  (if h.forced then 16 else 0), h.openings] ++ threeBytes h.serial))

/-- R43: OPEN LOCKER acts by the state of the locker. -/
def Obligations.OpenLocker : Prop :=
  ∀ (o : OrderFrame) (n : Byte) (rest : List Byte) (state : LockerState) (s : State),
    s.station.Ready → s.station.restart.mode = .run → s.station.Takes o → s.station.Room 1 →
    o.params = n :: rest → 1 ≤ n.toNat → n.toNat ≤ s.station.orders.setup.lockerCount →
    s.station.lockerState n.toNat = some state →
    (state ∈ [.locked, .orphan, .free, .outOfService] →
      Runs (.openLocker o) s fun a t =>
        t = ((a.heardLine.changeLocker n.toNat fun l =>
          { l with
            state := .unbolting
            purpose := some .attendant
            returnState := some state
            grantWait := none
            boltWait := none }).makeRequest (n.toNat - 1) (.bolt .attendant)).reported o 4 0 0 []) ∧
    (state ∈ [.opened, .unsecured] →
      Runs (.openLocker o) s fun a t => t = a.heardLine.reported o 4 0 0 []) ∧
    (state ∈ [.claiming, .unbolting, .unbolted, .jammed] →
      Runs (.openLocker o) s fun a t => t = a.heardLine.reported o 4 2 0 [])

/-- R40, R44, R180: END HOLDING, LOCKER SERVICE off and on, and CLEAR FAULT of a jammed locker, each by the state of
the locker named. The FREE of a holding that ends is offered before the REPORT, the model's choice
(notes/assumptions/45.md). -/
def Obligations.LockerOrders : Prop :=
  ∀ (n : Nat) (l : Locker) (s : State),
    s.station.Ready → s.station.restart.mode = .run → s.station.Room 3 → n ≤ 60 →
    1 ≤ n → n ≤ s.station.orders.setup.lockerCount → s.station.locker? n = some l →
    (∀ o rest, s.station.Takes o → o.params = oneByte n :: rest →
      let ends : Prop := l.state ∈ [.opened, .locked, .unsecured, .jammed] ∧ (s.station.holdingAt n).isSome = true
      (ends →
        Runs (.endHolding o) s fun a t =>
          t = ((a.heardLine.endHoldingAt n).freeLocker n).reported o 5 0 0 []) ∧
      (¬ ends → Runs (.endHolding o) s fun a t => t = a.heardLine.reported o 5 2 0 [])) ∧
    (∀ o rest, s.station.Takes o → o.params = oneByte n :: 0 :: rest →
      (l.state = .free →
        Runs (.lockerServiceOff o) s fun a t =>
          t = (a.heardLine.settleLocker n .outOfService).reported o 6 0 0 []) ∧
      (l.state = .outOfService → Runs (.lockerServiceOff o) s fun a t => t = a.heardLine.reported o 6 0 0 []) ∧
      (l.state ≠ .free → l.state ≠ .outOfService →
        Runs (.lockerServiceOff o) s fun a t => t = a.heardLine.reported o 6 2 0 [])) ∧
    (∀ o rest, s.station.Takes o → o.params = oneByte n :: 1 :: rest →
      (l.state = .outOfService →
        Runs (.lockerServiceOn o) s fun a t => t = (a.heardLine.freeLocker n).reported o 6 0 0 []) ∧
      (l.state = .free → Runs (.lockerServiceOn o) s fun a t => t = a.heardLine.reported o 6 0 0 []) ∧
      (l.state ≠ .free → l.state ≠ .outOfService →
        Runs (.lockerServiceOn o) s fun a t => t = a.heardLine.reported o 6 2 0 [])) ∧
    ∀ o rest, s.station.Takes o → o.params = 0 :: oneByte n :: rest →
      let closed := s.station.doorClosed n = true
      let settles (f : Station → Station) : Prop :=
        Runs (.clearFaultLocker o) s fun a t => t = (f a.heardLine).reported o 8 0 0 []
      (l.state ≠ .jammed → Runs (.clearFaultLocker o) s fun a t => t = a.heardLine.reported o 8 2 0 []) ∧
      (l.state = .jammed →
        (l.purpose = some .first → settles fun b => (b.endHoldingAt n).freeLocker n) ∧
        (l.purpose = some .retrieve ∨ (l.purpose = some .attendant ∧ l.returnState = some .locked) →
          (closed → settles fun b => b.lockLocker n) ∧ (¬ closed → settles fun b => b.settleLocker n .opened)) ∧
        (l.purpose = some .attendant →
          (l.returnState = some .orphan →
            (closed → settles fun b => b.settleLocker n .orphan) ∧ (¬ closed → settles fun b => b.freeLocker n)) ∧
          (l.returnState = some .free → settles fun b => b.freeLocker n) ∧
          (l.returnState = some .outOfService → settles fun b => b.settleLocker n .outOfService)))

/-- R105, R106: CABIN SERVICE off and on, and CLEAR FAULT of a cabin, each by the state of the cabin named. -/
def Obligations.CabinOrders : Prop :=
  ∀ (n : Nat) (c : Cabin) (s : State),
    s.station.Ready → s.station.restart.mode = .run → s.station.Room 1 → n ≤ 8 →
    1 ≤ n → n ≤ s.station.orders.setup.cabinCount → s.station.cabin? n = some c →
    let emptied (state : CabinState) (clock : Option (BitVec 16)) (d : Cabin) : Cabin :=
      { d with
        state
        occupant := none
        occupancy := clock.getD d.occupancy
        clearMoment := none
        reservedFor := none
        overstay := false
        graceAt := none
        admitAt := none
        vacateAt := none
        seconds := 0
        unsettled := false }
    let back (a : Station) : Station :=
      if c.presence = .confirmed then
        (a.changeCabin n (emptied .occupied (some a.cabins.clock))).setLatchTarget n none
      else a.releaseCabin n
    (∀ o rest, s.station.Takes o → o.params = oneByte n :: 0 :: rest →
      (c.state = .free →
        Runs (.cabinServiceOff o) s fun a t =>
          t = ((a.heardLine.changeCabin n (emptied .outOfService none)).setLatchTarget n none).reported o 7 0 0
            []) ∧
      (c.state = .outOfService → Runs (.cabinServiceOff o) s fun a t => t = a.heardLine.reported o 7 0 0 []) ∧
      (c.state ∈ [.reserved, .admitting, .occupied, .fault] →
        Runs (.cabinServiceOff o) s fun a t => t = a.heardLine.reported o 7 2 0 [])) ∧
    (∀ o rest, s.station.Takes o → o.params = oneByte n :: 1 :: rest →
      (c.state = .outOfService →
        Runs (.cabinServiceOn o) s fun a t => t = (back a.heardLine).reported o 7 0 0 []) ∧
      (c.state = .free → Runs (.cabinServiceOn o) s fun a t => t = a.heardLine.reported o 7 0 0 []) ∧
      (c.state ∈ [.reserved, .admitting, .occupied, .fault] →
        Runs (.cabinServiceOn o) s fun a t => t = a.heardLine.reported o 7 2 0 [])) ∧
    ∀ o rest, s.station.Takes o → o.params = 1 :: oneByte n :: rest →
      (c.state = .fault →
        Runs (.clearFaultCabin o) s fun a t => t = (back a.heardLine).reported o 8 0 0 []) ∧
      (c.state ≠ .fault → Runs (.clearFaultCabin o) s fun a t => t = a.heardLine.reported o 8 2 0 [])

/-- R156: CLEAR FAULT of a drive group, by the group's input and latch; a group above 3 names nothing. -/
def Obligations.ClearGroup : Prop :=
  ∀ (o : OrderFrame) (g : Byte) (rest : List Byte) (s : State),
    s.station.Ready → s.station.restart.mode = .run → s.station.Takes o → s.station.Room 1 →
    o.params = 2 :: g :: rest →
    (3 < g.toNat → Runs (.clearFaultGroup o) s fun a t => t = a.heardLine.reported o 8 6 0 []) ∧
    (g.toNat ≤ 3 →
      (s.station.drive.inputs.getLsbD g.toNat = true →
        Runs (.clearFaultGroup o) s fun a t => t = a.heardLine.reported o 8 5 0 []) ∧
      (s.station.drive.inputs.getLsbD g.toNat = false → s.station.faulted g.toNat = false →
        Runs (.clearFaultGroup o) s fun a t => t = a.heardLine.reported o 8 0 0 []) ∧
      (s.station.drive.inputs.getLsbD g.toNat = false → s.station.faulted g.toNat = true →
        Runs (.clearFaultGroup o) s fun a t =>
          ∃ latches : BitVec 4,
            (∀ k < 4, latches.getLsbD k = (a.drive.latches.getLsbD k && decide (k ≠ g.toNat))) ∧
            t = ({ a.heardLine with drive.latches := latches } : Station).grantTest.reported o 8 0 0 []))

/-- R190, R195: RESTART is answered DONE and waits for its REPORT; after 500 ms at the latest the warm start ORDERED
begins, in which every output is off and each block loses what a warm start loses. -/
def Obligations.Restart : Prop :=
  (∀ (o : OrderFrame) (s : State), s.station.Ready → s.station.Takes o → s.station.Room 1 →
    Runs (.restart o) s fun a t =>
      t = ({ a.heardLine with
            orders.restartWait := some { frame := a.link.nextFrame, deadline := a.now + 500 } } :
          Station).reported o 13 0 0 []) ∧
  ∀ (w : RestartWait) (s : State),
    s.station.live = true → s.station.Settled → s.station.orders.restartWait = some w →
    Runs .restartWaitExpiry s fun a t =>
      let begun : Station :=
        { (a.reach w.deadline).loseVolatile with
          restart.phase := .warm .ordered
          restart.check := a.retentionCheck }
      t = { begun with deliveries := [.warmStartEnd a.restart.strapPins a.restart.zonePins 0] } ∧
      begun.drive.queue = [] ∧ begun.link.queue = [] ∧ begun.cabins.queue = [] ∧
      begun.directory.cache = [] ∧ begun.panel.message = none ∧ begun.panel.cursor = none ∧
      begun.orders.restartWait = none ∧ begun.lockers.holdings = a.lockers.holdings ∧
      begun.claims.claims = a.claims.claims ∧ begun.orders.setup = a.orders.setup ∧
      begun.counters = a.counters ∧ begun.drive.latches = a.drive.latches ∧
      begun.retentionCheck = a.retentionCheck

/-! ### Timers of the tables (chapters 2, 4, 5 and 6) -/

/-- R22, R23, R78, R86, R96, R109 to R111, R115: the TALLY timer queues a TALLY of this moment's figures and starts
again; an entry 7 s old is stale; a redirect record 30 s old goes; a minute or a second of running time is counted
and sets OVERSTAY past its limit; the seconds that READ CABINS reports stop at 65 535 (R188). -/
def Obligations.TimerRows : Prop :=
  ∀ s : State, s.station.live = true → s.station.Settled →
    (∀ u, s.station.tally.timer = some u →
      (s.station.link.up = false →
        Runs .tallyTimer s fun a t => t = { a with now := max a.now u, tally.timer := some (u + 2000) }) ∧
      (s.station.link.up = true → s.station.Room 1 →
        Runs .tallyTimer s fun a t =>
          let b := a.reach u
          let free (z : Size) : Byte :=
            oneByte (b.lockers.lockers.filter fun l =>
              decide (l.size = z ∧ l.state = .free ∧ b.doorClosed l.number = true)).length
          let wait : BitVec 16 := BitVec.ofNat 16 (b.waitEstimate b.cabins.queue.length)
          let overstay : Bool := b.lockers.holdings.any (·.overstay) || b.cabins.cabins.any (·.overstay)
          let mode : Byte :=
            match b.restart.mode with
            | .recovering => 1
            | .run => 2
            | _ => 0
          let flags : Byte :=
            (if b.restart.holdDown then 1 else 0) + (if b.claims.walk.isSome then 2 else 0) +
              (if overstay then 4 else 0)
          t = ({ b with tally.timer := some (u + 2000) } : Station).offer .tally
            ([b.restart.zone.setWidth 8, free .standard, free .large, oneByte b.cabins.queue.length] ++
              twoBytes wait ++ [mode, flags]) .tallyUnit .plain)) ∧
    (∀ x n, s.station.neighbour? x = some n →
      (n.heard = true → n.aged = false →
        Runs (.neighbourStale x) s fun a t =>
          t = { a with
                now := max a.now (n.heardAt + 7000)
                tally.neighbours :=
                  updateWhere (fun m => decide (m.station = x)) (fun m => { m with aged := true })
                    a.tally.neighbours }) ∧
      (n.heard = false ∨ n.aged = true → Runs (.neighbourStale x) s fun a t => t = a)) ∧
    (∀ b r, s.station.redirectOf b = some r →
      Runs (.redirectRecordExpiry b) s fun a t =>
        t = { a with
              now := max a.now (r.moment + 30000)
              directory.redirects := a.directory.redirects.filter fun x => decide (x.serial ≠ b) }) ∧
    (Runs .minuteTick s fun a t =>
      let minute := a.lockers.minute + 1
      let limit := a.orders.setup.sessionLimit
      t = { a with
            now := max a.now a.lockers.minuteDue
            lockers.minute := minute
            lockers.minuteDue := a.lockers.minuteDue + 60000
            lockers.holdings := a.lockers.holdings.map fun h =>
              if limit ≠ 0 ∧ limit < (minute - h.start).toNat then { h with overstay := true } else h }) ∧
    (Runs .cabinClockTick s fun a t =>
      let clock := a.cabins.clock + 1
      t = { a with
            now := max a.now a.cabins.clockDue
            cabins.clock := clock
            cabins.clockDue := a.cabins.clockDue + 1000
            cabins.queue := a.cabins.queue.map fun e => { e with seconds := satInc e.seconds }
            cabins.cabins := a.cabins.cabins.map fun c =>
              if c.state = .occupied then
                { c with
                  seconds := satInc c.seconds
                  overstay :=
                    if 60 * a.orders.setup.cabinLimit < (clock - c.occupancy).toNat then true else c.overstay }
              else c })

/-! ### Lockers: settling, waits, doors and bolts (chapter 2) -/

/-- R34, R35, R152: the grant wait withdraws the request and ends the holding; the door wait ends the request and
settles the locker by its purpose. A withdrawn pull leaves its slot to rest for 20 ms. At an expiry taken first, a pull
that ends at that moment or later is cut short: no check is made. A pull that ended at an earlier moment has its
PULLED report on the way (BoltPullEnds says what it does), its slot resting from its end, and has jammed if it was a
third failed attempt (notes/assumptions/31.md). -/
def Obligations.LockerWaits : Prop :=
  ∀ (n : Nat) (l : Locker) (s : State),
    s.station.live = true → s.station.Settled → s.station.Room 2 →
    s.station.link.up = true ∨ s.station.claims.walk = none → s.station.locker? n = some l →
    let endedAt (e w : Moment) (a : Station) : Station :=
      { a.reach w with
        drive.queue := a.drive.queue.filter fun r => decide (r.output ≠ n - 1)
        drive.slots :=
          a.drive.slots.map fun k =>
            if (s.station.request? (n - 1)).any (fun r =>
                match r.phase with
                | .pull slot _ => decide (k.number = slot)
                | _ => false) = true then
              { k with restUntil := some (max a.now e + 20) }
            else k }
    let ended (w : Moment) (a : Station) : Station := endedAt w w a
    (∀ w, l.grantWait = some w →
      ((∀ r slot e, s.station.request? (n - 1) = some r → r.phase = .pull slot e → w ≤ e) →
        Runs (.grantWaitExpiry n) s fun a t => t = ((ended w a).endHoldingAt n).freeLocker n) ∧
      ∀ r slot e, s.station.request? (n - 1) = some r → r.phase = .pull slot e → e < w →
        Runs (.grantWaitExpiry n) s fun a t =>
          let late : Station :=
            { endedAt e w a with
              drive.late := a.drive.late ++ [n - 1]
              drive.jams :=
                if a.boltEngaged n = true ∧ 3 ≤ r.attempt then satInc a.drive.jams
                else a.drive.jams }
          t = (late.endHoldingAt n).freeLocker n) ∧
    (∀ w, l.doorWait = some w →
      (l.purpose = some .first →
        Runs (.doorWaitExpiry n) s fun a t => t = ((ended w a).endHoldingAt n).freeLocker n) ∧
      (l.purpose = some .retrieve ∨ (l.purpose = some .attendant ∧ l.returnState = some .locked) →
        Runs (.doorWaitExpiry n) s fun a t => t = (ended w a).lockLocker n) ∧
      (l.purpose = some .attendant → l.returnState = some .free →
        Runs (.doorWaitExpiry n) s fun a t => t = (ended w a).freeLocker n) ∧
      (∀ back ∈ [LockerState.orphan, .outOfService],
        l.purpose = some .attendant → l.returnState = some back →
        Runs (.doorWaitExpiry n) s fun a t => t = (ended w a).settleLocker n back))

/-- R37 to R39: securing a locker. The event's level is taken first (notes/assumptions/13.md); a bolt wait that
ends with the bolt sensed ENGAGED leaves the locker LOCKED (notes/assumptions/11.md). -/
def Obligations.SecuringRows : Prop :=
  ∀ (n : Nat) (l : Locker) (s : State),
    s.station.live = true → s.station.scan.loaded = true → s.station.locker? n = some l →
    let waits (b : Station) : Station := b.changeLocker n fun l => { l with boltWait := some (b.now + 2000) }
    let stops (b : Station) : Station := b.changeLocker n fun l => { l with boltWait := none }
    (∀ w, l.boltWait = some w →
      Runs (.boltWaitExpiry n) s fun a t =>
        t = if a.boltEngaged n = true then (a.reach w).lockLocker n else (a.reach w).settleLocker n .unsecured) ∧
    (Runs (.doorClosed n) s fun a t =>
      let b := a.setDoor n true
      (l.state = .opened → t = if b.boltEngaged n = true then b.lockLocker n else waits b) ∧
      (l.state = .free → t = b.freeLocker n) ∧
      (l.state ≠ .opened → l.state ≠ .free → t = b)) ∧
    (Runs (.boltEvent n true) s fun a t =>
      let b := a.setBolt n true
      (l.state = .unsecured ∨ (l.state = .opened ∧ l.boltWait.isSome = true) → t = b.lockLocker n) ∧
      (l.state = .locked → t = stops b) ∧
      (l.state = .opened → l.boltWait = none → t = b) ∧
      (l.state ∈ [.free, .claiming, .unbolting, .unbolted, .jammed, .orphan, .outOfService] → t = b)) ∧
    (Runs (.boltEvent n false) s fun a t =>
      let b := a.setBolt n false
      (l.state = .locked → t = waits b) ∧ (l.state ≠ .locked → t = b))

/-- R36, R37, R39, R41, R172: a door event OPEN by the state of the locker; the cursor leaves the marked locker. The
model first puts the door's level, switch and samples where the event says (notes/assumptions/13.md). -/
def Obligations.DoorOpens : Prop :=
  ∀ (n : Nat) (l : Locker) (s : State),
    s.station.live = true → s.station.scan.loaded = true → s.station.locker? n = some l →
    Runs (.doorOpened n) s fun a t =>
      let b := a.setDoor n false
      let uncursored (x : Station) : Station :=
        if a.panel.cursor = some n then
          { x with panel.cursor := none, panel.cursorTimer := none }
        else x
      let counted (x : Station) : Station := x.changeHolding n fun h => { h with openings := satInc h.openings }
      let forced (x : Station) : Station :=
        ({ x with lockers.forcedDoors := satInc x.lockers.forcedDoors } : Station).changeLocker n
          fun l => { l with forced := true }
      let driven := l.state = .unbolting ∨ l.state = .unbolted
      let ended := b.withdrawDrive (n - 1)
      (driven → l.purpose = some .first ∨ l.purpose = some .retrieve ∨
          (l.purpose = some .attendant ∧ l.returnState = some .locked) →
        t = uncursored (counted (ended.settleLocker n .opened))) ∧
      (driven → l.purpose = some .attendant → l.returnState = some .orphan ∨ l.returnState = some .free →
        t = uncursored (ended.freeLocker n)) ∧
      (driven → l.purpose = some .attendant → l.returnState = some .outOfService →
        t = uncursored (ended.settleLocker n .outOfService)) ∧
      (l.state = .opened → t = uncursored (b.changeLocker n fun l => { l with boltWait := none })) ∧
      (l.state = .unsecured → t = uncursored (counted (b.settleLocker n .opened))) ∧
      (l.state = .locked →
        t = uncursored (((forced b).changeHolding n fun h => { h with forced := true }).settleLocker n .opened)) ∧
      (l.state ∈ [.free, .orphan, .claiming] → t = uncursored (forced b)) ∧
      (l.state ∈ [.jammed, .outOfService] → t = uncursored b)

/-! ### The drive arbiter and the drive supply (chapters 8 and 12) -/

/-- R17, R34, R35, R40, R149 to R152: the end of a bolt's pull: REACHED, NOT REACHED or JAMMED. A report on its way
from a pull whose request was withdrawn meanwhile counts its wear and changes no state. The attempt number rises when
the rest ends, not before (the model's reading, notes/assumptions/49.md). -/
def Obligations.BoltPullEnds : Prop :=
  (∀ (n : Nat) (s : State), s.station.live = true → 1 ≤ n → n - 1 ∈ s.station.drive.late →
    Runs (.pullEnd (n - 1)) s fun a t =>
      t = ({ a with drive.late := a.drive.late.erase (n - 1) } : Station).changeLocker n fun l =>
        { l with wear := satInc l.wear }) ∧
  ∀ (n : Nat) (l : Locker) (r : DriveRequest) (p : Purpose) (slot : Nat) (e : Moment) (s : State),
    s.station.live = true → 1 ≤ n → s.station.locker? n = some l → n - 1 ∉ s.station.drive.late →
    s.station.request? (n - 1) = some r → r.purpose = .bolt p → r.phase = .pull slot e →
    let rested (a : Station) : Station :=
      { a.reach e with
        drive.slots :=
          updateWhere (fun k => decide (k.number = slot))
            (fun k => { k with restUntil := some (max a.now e + 20) }) a.drive.slots }
    Runs (.pullEnd (n - 1)) s fun a t =>
      let b := rested a
      let phase (x : DrivePhase) : Station :=
        { b with
          drive.queue :=
            updateWhere (fun q => decide (q.output = n - 1)) (fun q => { q with phase := x }) a.drive.queue }
      (b.boltEngaged n = false →
        t = (phase .hold).changeLocker n fun l =>
          if l.state = .unbolting then
            { l with
              wear := satInc l.wear
              state := .unbolted
              grantWait := none
              doorWait := some (b.now + 1000 * a.orders.setup.doorWait) }
          else { l with wear := satInc l.wear }) ∧
      (b.boltEngaged n = true → r.attempt < 3 →
        t = (phase (.rest (b.now + 200))).changeLocker n fun l => { l with wear := satInc l.wear }) ∧
      (b.boltEngaged n = true → 3 ≤ r.attempt →
        t = (({ b with
              drive.queue := a.drive.queue.filter fun q => decide (q.output ≠ n - 1)
              drive.jams := satInc a.drive.jams } : Station).changeLocker n fun l =>
            { l with wear := satInc l.wear, state := .jammed, grantWait := none }).post .seeAttendant)

/-- R88, R90, R149 to R151: the end of a latch's pull, the end of a jam rest, and the end of a slot's rest. The attempt
number rises when the rest ends, not before (the model's reading, notes/assumptions/49.md). -/
def Obligations.LatchPullEnds : Prop :=
  (∀ (n : Nat) (c : Cabin) (r : DriveRequest) (x : Latch) (slot : Nat) (e : Moment) (s : State),
    s.station.live = true → s.station.cabin? n = some c → 59 + n ∉ s.station.drive.late →
    s.station.request? (59 + n) = some r → r.purpose = .latch x → r.phase = .pull slot e →
    Runs (.pullEnd (59 + n)) s fun a t =>
      let b := (a.reach e).restSlot slot
      let removed : Station :=
        { b with drive.queue := a.drive.queue.filter fun q => decide (q.output ≠ 59 + n) }
      let still (y : Station) : Station := y.changeCabin n fun d => { d with latchMoving := false }
      let requested (y : Latch) (u : Station) : Station :=
        ({ u with
          drive.queue :=
            u.drive.queue ++ [{ output := 59 + n, purpose := .latch y, attempt := 1, phase := .waiting }] } :
          Station).changeCabin n fun d => { d with latchMoving := true }
      (b.latchLevel n = x → c.latchTarget = none ∨ c.latchTarget = some c.latchPosition →
        t = (still removed).grantTest) ∧
      (∀ y, b.latchLevel n = x → c.latchTarget = some y → y ≠ c.latchPosition →
        t = (requested y (still removed)).grantTest) ∧
      (b.latchLevel n ≠ x → r.attempt < 3 →
        let resting := b.changeRequest (59 + n) fun q => { q with phase := .rest (b.now + 200) }
        (c.latchTarget = some x → t = resting) ∧
        (c.latchTarget ≠ some x → c.latchTarget = none ∨ c.latchTarget = some c.latchPosition →
          t = still removed) ∧
        ∀ y, c.latchTarget = some y → y ≠ x → y ≠ c.latchPosition →
          t = (requested y (still removed)).grantTest) ∧
      (b.latchLevel n ≠ x → 3 ≤ r.attempt →
        let faulty : Station :=
          ({ removed with drive.jams := satInc a.drive.jams } : Station).changeCabin n fun d =>
            { d with
              state := .fault
              latchTarget := none
              occupant := none
              clearMoment := none
              reservedFor := none
              overstay := false
              latchMoving := false
              graceAt := none
              admitAt := none
              vacateAt := none
              seconds := 0
              unsettled := false }
        (c.reservedFor = none → t = faulty) ∧
        ∀ serial, c.reservedFor = some serial → t = faulty.returnEntry serial)) ∧
  (∀ (o : Nat) (r : DriveRequest) (e : Moment) (s : State),
    s.station.live = true → s.station.request? o = some r → r.phase = .rest e →
    Runs (.jamRestEnd o) s fun a t =>
      t = ({ a.reach e with
            drive.queue :=
              (a.drive.queue.filter fun q => decide (q.output ≠ o)) ++
                [{ r with attempt := r.attempt + 1, phase := .waiting }] } : Station).grantTest) ∧
  ∀ (k : Nat) (x : Slot) (u : Moment) (s : State),
    s.station.live = true → (s.station.drive.slots.find? fun y => decide (y.number = k)) = some x →
    x.restUntil = some u →
    Runs (.slotRestEnd k) s fun a t =>
      t = ({ a.reach u with
            drive.slots :=
              updateWhere (fun y => decide (y.number = k)) (fun y => { y with restUntil := none })
                a.drive.slots } : Station).grantTest

/-- R153 to R155, R194: a fault of a group and a low supply turn outputs off: a pull waits again and its slot rests,
each hold ends and its locker is settled by its purpose, in queue order (notes/assumptions/32.md); the supply's levels
start, cancel and end the release timer. The monitor so runs in STRAP_FAULT and in a start too, where a fault input is
not tracked (R157). The input's end changes no latch (notes/assumptions/18.md). -/
def Obligations.SupplyRows : Prop :=
  ∀ s : State, s.station.Settled →
    let pulls (p : DriveRequest → Bool) (slot : Nat) : Bool :=
      s.station.drive.queue.any fun r =>
        p r && (match r.phase with
          | .pull k _ => decide (k = slot)
          | _ => false)
    let cut (p : DriveRequest → Bool) (b : Station) : Station :=
      { b with
        drive.slots :=
          b.drive.slots.map fun k =>
            if pulls p k.number then { k with restUntil := some (b.now + 20) } else k
        drive.queue :=
          (b.drive.queue.filter fun r => !(p r && decide (r.phase = .hold))).map fun r =>
            match r.phase with
            | .pull _ _ => if p r then { r with phase := .waiting } else r
            | _ => r }
    let holds (p : DriveRequest → Bool) : List DriveRequest :=
      s.station.drive.queue.filter fun r => p r && decide (r.phase = .hold)
    let untaken (n : Nat) (u : Station) : Station :=
      match u.locker? n with
      | none => u
      | some l =>
        match l.purpose, l.returnState with
        | some .first, _ => (u.endHoldingAt n).freeLocker n
        | some .retrieve, _ => u.lockLocker n
        | some .attendant, some .locked => u.lockLocker n
        | some .attendant, some .free => u.freeLocker n
        | some .attendant, some back => u.settleLocker n back
        | _, _ => u
    let settled (p : DriveRequest → Bool) (b : Station) : Station → Prop := fun t =>
      ((∀ r ∈ s.station.drive.queue, p r = true → r.phase ≠ .hold) → t = cut p b) ∧
      ((∀ h ∈ s.station.lockers.holdings, h.unannounced = false) → s.station.Room (holds p).length →
        t = (holds p).foldl (fun u r => untaken (r.output + 1) u) (cut p b))
    (∀ g, g ≤ 3 →
      let inGroup (r : DriveRequest) : Bool := decide (r.output / 17 = g)
      let marked (x : BitVec 4) (b : Bool) : BitVec 4 :=
        BitVec.ofBoolListLE ((List.range 4).map fun k => if k = g then b else x.getLsbD k)
      (s.station.live = false → ∀ active,
        Runs (.driveFault g active) s fun a t => t = { a with drive.inputs := marked a.drive.inputs active }) ∧
      (s.station.live = true → s.station.drive.latches.getLsbD g = false →
        Runs (.driveFault g true) s fun a t =>
          settled inGroup
            { a with
              drive.inputs := marked a.drive.inputs true
              drive.latches := marked a.drive.latches true } t) ∧
      (s.station.drive.latches.getLsbD g = true →
        Runs (.driveFault g true) s fun a t => t = { a with drive.inputs := marked a.drive.inputs true }) ∧
      Runs (.driveFault g false) s fun a t => t = { a with drive.inputs := marked a.drive.inputs false }) ∧
    (s.station.restart.holdDown = false →
      Runs .driveSupplyLow s fun a t =>
        settled (fun _ => true)
          { a with
            restart.driveSupply := .low
            restart.holdDown := true
            restart.releaseAt := none } t) ∧
    (s.station.restart.holdDown = true →
      Runs .driveSupplyLow s fun a t =>
        t = { a with restart.driveSupply := .low, restart.releaseAt := none }) ∧
    (s.station.restart.holdDown = true → s.station.restart.releaseAt = none →
      Runs .driveSupplyRise s fun a t =>
        t = { a with restart.driveSupply := .high, restart.releaseAt := some (a.now + 100) }) ∧
    (s.station.restart.holdDown = false ∨ s.station.restart.releaseAt.isSome = true →
      Runs .driveSupplyRise s fun a t => t = { a with restart.driveSupply := .high }) ∧
    (Runs .driveSupplySag s fun a t =>
      t = { a with restart.driveSupply := .middle, restart.releaseAt := none }) ∧
    ∀ u, s.station.restart.releaseAt = some u →
      Runs .holdDownRelease s fun a t =>
        t = ({ a.reach u with restart.holdDown := false, restart.releaseAt := none } : Station).grantTest

/-! ### Cabins (chapters 5 and 9) -/

/-- R86, R95, R98 to R100, R116: the grace timer takes the entry and counts a miss, the admit timer takes the entry,
the vacate timer ends the occupancy and moves the dwell average; each releases the cabin. -/
def Obligations.CabinTimers : Prop :=
  ∀ (n : Nat) (c : Cabin) (u : Moment) (s : State),
    s.station.live = true → s.station.cabin? n = some c →
    (∀ b, c.graceAt = some u → c.reservedFor = some b →
      Runs (.graceExpiry n) s fun a t =>
        t = ({ a.reach u with
              cabins.queue := a.cabins.queue.filter fun e => decide (e.serial ≠ b)
              cabins.missed := satInc a.cabins.missed } : Station).releaseCabin n) ∧
    (∀ b, c.admitAt = some u → c.reservedFor = some b →
      Runs (.admitTimerExpiry n) s fun a t =>
        t = ({ a.reach u with
              cabins.queue := a.cabins.queue.filter fun e => decide (e.serial ≠ b) } : Station).releaseCabin n) ∧
    (∀ m, c.vacateAt = some u → c.clearMoment = some m →
      Runs (.vacateTimerExpiry n) s fun a t =>
        t = ({ a.reach u with
              cabins.dwell := dwellUpdate a.cabins.dwell (min 1800 (m - c.occupancy).toNat) } :
            Station).releaseCabin n)

/-- R89, R91 to R94, R164: the pad's three events and the latch's, by the state of the cabin. The event's level is
taken first (notes/assumptions/13.md). -/
def Obligations.PresenceAndLatch : Prop :=
  ∀ (n : Nat) (c : Cabin) (p : Pad) (s : State),
    s.station.live = true → s.station.scan.loaded = true → s.station.cabin? n = some c →
    s.station.pad? n = some p →
    let pad (x : Presence) (confirm : Option Moment) (b : Station) : Station :=
      b.changePad n fun q => { q with presence := x, confirmAt := confirm }
    let enters (band : Option (BitVec 24)) (b : Station) : Station :=
      (b.changeCabin n fun d =>
        { d with
          state := .occupied
          occupant := band
          occupancy := b.cabins.clock
          clearMoment := none
          reservedFor := none
          overstay := false
          graceAt := none
          admitAt := none
          vacateAt := none
          seconds := 0
          unsettled := false }).setLatchTarget n none
    (Runs (.presenceSeen n) s fun a t =>
      let b := a.setPadLevel n true
      (p.presence ≠ .clear → t = b) ∧
      (p.presence = .clear → ¬ (c.state = .occupied ∧ c.vacateAt.isSome = true) →
        t.cabin? n = some { c with presence := .seen } ∧
        t = { pad .seen (some (a.now + 1000)) b with cabins.cabins := t.cabins.cabins }) ∧
      (p.presence = .clear → c.state = .occupied → c.vacateAt.isSome = true →
        t.cabin? n = some { c with presence := .seen, vacateAt := none, clearMoment := none } ∧
        t = { pad .seen (some (a.now + 1000)) b with cabins.cabins := t.cabins.cabins }) ∧
      ∀ m, m ≠ n → t.cabin? m = a.cabin? m) ∧
    (∀ u, p.confirmAt = some u →
      Runs (.presenceConfirmed n) s fun a t =>
        let b := (pad .confirmed none (a.reach u)).changeCabin n fun d => { d with presence := .confirmed }
        (c.state = .free → c.reservedFor = none → t = enters none b) ∧
        (∀ serial, c.state = .reserved → c.reservedFor = some serial →
          t = (enters none b).returnEntry serial) ∧
        (∀ serial, c.state = .admitting → c.reservedFor = some serial →
          t = (enters (some serial) b).removeEntry serial) ∧
        (c.state ∈ [.occupied, .outOfService, .fault] → t = b)) ∧
    (Runs (.presenceClear n) s fun a t =>
      let b := a.setPadLevel n false
      (p.presence = .clear → t = b) ∧
      (p.presence ≠ .clear →
        t.cabin? n = some (if c.state = .occupied then
            { c with
              presence := .clear
              vacateAt := some (a.now + 1000 * a.orders.setup.vacateTime)
              clearMoment := some a.cabins.clock }
          else { c with presence := .clear }) ∧
        (∀ m, m ≠ n → t.cabin? m = a.cabin? m) ∧
        t = { pad .clear none b with cabins.cabins := t.cabins.cabins })) ∧
    ∀ latched,
      Runs (.latchEvent n latched) s fun a t =>
        let position : Latch := if latched then .latched else .unlatched
        let b := (a.follow fun l => { l with latch := setBit n latched l.latch }).changeCabin n fun d =>
          { d with latchPosition := position }
        (c.latchTarget = none ∨ c.latchTarget = some position ∨ c.latchMoving = true → t = b) ∧
        ∀ x, c.latchTarget = some x → x ≠ position → c.latchMoving = false →
          s.station.request? (59 + n) = none →
          t = (({ b with
                drive.queue :=
                  b.drive.queue ++
                    [{ output := 59 + n, purpose := .latch x, attempt := 1, phase := .waiting }] } :
              Station).changeCabin n fun d => { d with latchMoving := true }).grantTest

/-! ### The panel (chapter 10) -/

/-- R167 to R176, R178: a posting, the cursor, the window of a text and the strobes of a frame; the cursor timer, the
message hold, a turn of a pair, a scroll step and a frame, in STRAP_FAULT too. A posted text is shown at once
(notes/assumptions/16.md). Between the end of a warm start and the filter load the cells show the states from before
the start (notes/assumptions/53.md). Of a row's two strobes the green one comes first, the model's choice
(notes/assumptions/54.md). -/
def Obligations.PanelRows : Prop :=
  (∀ (m : Message) (s : Station),
    s.postMessage m =
      { s with
        panel.message := some m
        panel.secondTurn := false
        panel.scroll := 0
        panel.stepCount := 0
        panel.holdEnd := some (s.now + 8000)
        panel.turnEnd := m.second.map fun _ => s.now + 2000
        panel.line := m.first.window 0 }) ∧
  (∀ (x : Text) (k : Nat),
    (x.chars.length ≤ 24 → x.window k = x.chars ++ List.replicate (24 - x.chars.length) ' ') ∧
    (24 < x.chars.length → (x.window k).length = 24 ∧
      ∀ i, i < 24 → (x.window k)[i]? =
        (x.chars ++ [' ', ' ', ' ', ' '])[(k + i) % (x.chars.length + 4)]?)) ∧
  (∀ (n : Nat) (s : Station),
    s.placeCursor n = { s with panel.cursor := some n, panel.cursorTimer := some (s.now + 15000) }) ∧
  (∀ p : Panel, p.cells.length = 72 →
    p.strobes.length = 12 ∧
    ∀ row ∈ [1, 2, 3, 4, 5, 6], ∀ green : Bool,
      ∃ x : Strobe, p.strobes[2 * (row - 1) + if green then 0 else 1]? = some x ∧
        x.rows = [1, 2, 3, 4, 5, 6].map (fun r => decide (r = row)) ∧
        x.greenLine = green ∧ x.redLine = !green ∧ x.columns.length = 12 ∧
        ∀ k colour, 12 * (row - 1) < k → k ≤ 12 * row → p.cells[k - 1]? = some colour →
          x.columns[k - 12 * (row - 1) - 1]? =
            some (decide (colour = .amber ∨ colour = if green then .green else .red))) ∧
  (∀ s : State, s.station.restart.phase = .running → s.station.restart.mode = .strapFault →
    s.station.panel.cursor = none →
    Runs .panelFrame s fun a t =>
      t = { a with
            now := max a.now ((a.panel.frameDue + 7) / 8)
            panel.frame := a.panel.frame + 1
            panel.frameDue := a.panel.frameDue + 125
            panel.cells := List.replicate 72 .dark }) ∧
  ∀ s : State, s.station.live = true →
    let idle (b : Station) : Text :=
      match b.restart.mode with
      | .run => .idleCounts (b.freeCount .standard) (b.freeCount .large) b.freeCabins
      | _ => .notReady
    (∀ u, s.station.panel.cursorTimer = some u →
      Runs .cursorTimerExpiry s fun a t =>
        t = { a with now := max a.now u, panel.cursor := none, panel.cursorTimer := none }) ∧
    (∀ u, s.station.panel.holdEnd = some u →
      Runs .messageHoldExpiry s fun a t =>
        t = { a with
              now := max a.now u
              panel.message := none
              panel.holdEnd := none
              panel.secondTurn := false
              panel.turnEnd := none
              panel.scroll := 0
              panel.line := (idle (a.reach u)).window 0 }) ∧
    (∀ u x y, s.station.panel.turnEnd = some u →
      s.station.panel.message = some { first := x, second := some y } →
      Runs .pairTurn s fun a t =>
        t = { a with
              now := max a.now u
              panel.secondTurn := !a.panel.secondTurn
              panel.scroll := 0
              panel.stepCount := 0
              panel.turnEnd :=
                a.panel.holdEnd.bind fun h => if u + 2000 < h then some (u + 2000) else none
              panel.line := (if a.panel.secondTurn then x else y).window 0 }) ∧
    (s.station.panel.turnEnd = none → Runs .pairTurn s fun a t => t = a) ∧
    (∀ x, s.station.panel.message = some { first := x, second := none } →
      (24 < x.chars.length →
        Runs .scrollStep s fun a t =>
          let k := if a.panel.scroll + 1 = x.chars.length + 4 then 0 else a.panel.scroll + 1
          a.panel.scroll < x.chars.length + 4 →
          t = { a with panel.stepCount := 0, panel.scroll := k, panel.line := x.window k }) ∧
      (x.chars.length ≤ 24 → Runs .scrollStep s fun a t => t = { a with panel.stepCount := 0 })) ∧
    Runs .panelFrame s fun a t =>
      let frame := a.panel.frame + 1
      let fast : Bool := frame.toNat % 32 < 16
      let slow : Bool := frame.toNat < 32
      let lit (b : Bool) (x : Colour) : Colour := if b then x else .dark
      t = { a with
            now := max a.now ((a.panel.frameDue + 7) / 8)
            panel :=
              { a.panel with
                frame
                frameDue := a.panel.frameDue + 125
                stepCount := t.panel.stepCount
                scroll := t.panel.scroll
                cells := t.panel.cells
                line := t.panel.line } } ∧
      (a.panel.stepCount < 11 → t.panel.scroll = a.panel.scroll ∧ t.panel.stepCount = a.panel.stepCount + 1) ∧
      (a.panel.stepCount = 11 → t.panel.stepCount = 0) ∧
      (∀ m, a.panel.message = some m →
        let x : Text :=
          match m.second with
          | some y => if a.panel.secondTurn then y else m.first
          | none => m.first
        (a.panel.stepCount < 11 → t.panel.line = x.window a.panel.scroll) ∧
        (a.panel.stepCount = 11 →
          (24 < x.chars.length → a.panel.scroll < x.chars.length + 4 →
            t.panel.scroll = (if a.panel.scroll + 1 = x.chars.length + 4 then 0 else a.panel.scroll + 1) ∧
            t.panel.line = x.window t.panel.scroll) ∧
          (x.chars.length ≤ 24 → t.panel.scroll = a.panel.scroll ∧ t.panel.line = x.window a.panel.scroll))) ∧
      (a.panel.message = none → a.panel.scroll = 0 →
        t.panel.line = (idle (a.reach ((a.panel.frameDue + 7) / 8))).window 0) ∧
      t.panel.cells.length = 72 ∧
      (∀ k, 1 ≤ k → k ≤ 72 → a.panel.cursor ≠ some k → (k ≤ 60 → a.locker? k = none) →
        (60 < k → k ≤ 68 → a.cabin? (k - 60) = none) → t.panel.cells[k - 1]? = some .dark) ∧
      (∀ k l, 1 ≤ k → k ≤ 60 → a.locker? k = some l →
        t.panel.cells[k - 1]? = some
          (if a.panel.cursor = some k ∧ fast = true then .amber
          else if l.state = .outOfService then .dark
          else if l.forced then lit fast .amber
          else match l.state with
            | .free => .green
            | .claiming => lit fast .amber
            | .unbolting => lit fast .green
            | .unbolted => lit fast .green
            | .opened => lit slow .green
            | .locked => if (a.holdingAt l.number).any (·.overstay) then lit slow .red else .red
            | .unsecured => lit slow .amber
            | .jammed => .amber
            | .orphan => lit fast .red
            | .outOfService => .dark)) ∧
      ∀ k c, 1 ≤ k → k ≤ 8 → a.cabin? k = some c → a.panel.cursor ≠ some (60 + k) →
        t.panel.cells[59 + k]? = some
          (match c.state with
          | .free => .green
          | .reserved => lit fast .green
          | .admitting => lit fast .green
          | .occupied => if c.overstay then lit slow .red else .red
          | .fault => .amber
          | .outOfService => .dark)

/-! ### Starts, recovery and the filters (chapters 9 and 12) -/

/-- R64, R67, R142, R157, R191 to R197: the causes of a start, their ends, the end of a warm start with the link UP and
DOWN, a cold start, the end of the recovery window, and the retained state in STRAP_FAULT, which stands until the logic
supply is lost (R195). A start RESET_LINE ends with the line high and the supply above 3.0 V, whichever comes last. A
restored supply ends a start SUPPLY_LOW, and makes the cold start after a loss, whatever the reset line's level
(notes/assumptions/19.md); the check kept is stored as the start begins, and WARM_START_END carries the damage to the one
computed afresh (8.md), the model's choices. Taps refused takes at the end of STRAP_FAULT what was counted there (notes/assumptions/15.md),
claims are voided in the order of the table (38.md), and a cold start that finds the supply above 21.5 V begins its
100 ms then (52.md), the model's choices. -/
def Obligations.StartRows : Prop :=
  ∀ s : State,
    let kept (a t : Station) : Prop :=
      t.lockers.holdings = a.lockers.holdings ∧ t.lockers.minute = a.lockers.minute ∧
      t.orders.setup = a.orders.setup ∧ t.orders.snapshot = a.orders.snapshot ∧
      t.orders.lockersLockClosed = a.orders.lockersLockClosed ∧
      t.orders.cabinsLockClosed = a.orders.cabinsLockClosed ∧ t.cabins.dwell = a.cabins.dwell ∧
      t.cabins.clock = a.cabins.clock ∧ t.taps.accepted = a.taps.accepted ∧ t.drive.jams = a.drive.jams ∧
      t.restart.holdDown = a.restart.holdDown ∧ t.restart.releaseAt = a.restart.releaseAt
    let begun (cause : StartCause) (a t : Station) : Prop :=
      t.restart.phase = .warm cause ∧ kept a t ∧ t.retentionCheck = a.retentionCheck ∧
      t.restart.check = (if a.restart.phase = .running then a.retentionCheck else a.restart.check) ∧
      t.claims.claims = a.claims.claims ∧
      t.taps.refused = a.taps.refused ∧ t.taps.heldRefused = a.taps.heldRefused ∧
      t.drive.latches = a.drive.latches ∧ t.drive.queue = [] ∧ t.link.queue = [] ∧ t.link.up = true ∧
      t.cabins.queue = [] ∧ t.directory.cache = [] ∧ t.directory.redirects = [] ∧ t.panel.message = none ∧
      t.panel.cursor = none ∧ t.panel.frame = 0 ∧ t.scan.loaded = false ∧ t.orders.restartWait = none ∧
      t.restart.windowEnd = none
    let cold (cause : StartCause) (strap : BitVec 5) (zone : BitVec 3) (a t : Station) : Prop :=
      t.restart.phase = .running ∧ t.restart.station = strap.toNat ∧ t.restart.zone = zone ∧
      t.restart.cause = cause ∧ t.restart.warmStarts = 0 ∧ t.restart.holdDown = true ∧
      t.restart.releaseAt =
        (if a.restart.driveSupply = .high then some (a.now + 100) else none) ∧
      t.lockers.lockers = [] ∧ t.lockers.holdings = [] ∧ t.lockers.minute = 0 ∧ t.claims.claims = [] ∧
      t.directory.cache = [] ∧ t.cabins.cabins = [] ∧ t.cabins.queue = [] ∧ t.cabins.dwell = 0 ∧
      t.drive.queue = [] ∧ t.link.up = true ∧ t.counters = Counters.zero ∧
      t.taps.heldRefused = 0 ∧ t.orders.snapshot = Counters.zero ∧
      t.orders.lockersLockClosed = false ∧ t.orders.cabinsLockClosed = false ∧
      t.orders.setup.filterInterval = 8 ∧ t.panel.message = none ∧
      (1 ≤ strap.toNat ∧ strap.toNat ≤ 27 →
        t.restart.mode = .unset ∧ t.drive.latches = a.drive.inputs ∧
        t.link.queue.map (·.kind) = [.tally] ∧ t.panel.line = Text.notReady.window 0) ∧
      (strap.toNat = 0 ∨ 28 ≤ strap.toNat →
        t.restart.mode = .strapFault ∧ t.link.queue = [] ∧ t.panel.line = Text.strapFault.window 0)
    (s.station.restart.phase ≠ .off →
      Runs .logicSupplyLow s (fun a t => t.restart.logicSupply = .low ∧ begun .supplyLow a t) ∧
      Runs .resetLineLow s (fun a t => t.restart.resetLineLow = true ∧ begun .resetLine a t)) ∧
    Runs .logicSupplyLost s (fun _ t =>
      t.restart.phase = .off ∧ t.restart.logicSupply = .lost ∧ t.drive.queue = [] ∧ t.link.queue = []) ∧
    (∀ strap zone,
      (s.station.restart.phase = .off →
        Runs (.logicSupplyRestored strap zone) s fun a t => cold .powerOn strap zone a t) ∧
      (s.station.restart.phase = .warm .supplyLow → s.station.Settled →
        Runs (.logicSupplyRestored strap zone) s fun a t =>
          t = { a with
                restart.logicSupply := .normal
                restart.strapPins := strap
                restart.zonePins := zone
                deliveries := a.deliveries ++ [.warmStartEnd strap zone 0] }) ∧
      (s.station.restart.phase = .warm .resetLine → s.station.Settled →
        Runs (.logicSupplyRestored strap zone) s fun a t =>
          t = { a with
                restart.logicSupply := .normal
                restart.strapPins := strap
                restart.zonePins := zone
                deliveries :=
                  if a.restart.resetLineLow = true then a.deliveries
                  else a.deliveries ++ [.warmStartEnd strap zone 0] })) ∧
    (s.station.restart.phase = .warm .resetLine →
      Runs .resetLineHigh s fun a t =>
        t = { a with
              restart.resetLineLow := false
              deliveries :=
                if a.restart.logicSupply = .normal then
                  a.deliveries ++ [.warmStartEnd a.restart.strapPins a.restart.zonePins 0]
                else a.deliveries }) ∧
    (s.station.restart.phase ∈ [.off, .running] ∨
        (s.station.restart.phase = .warm .supplyLow ∧ s.station.restart.logicSupply ≠ .normal) →
      Runs .resetLineHigh s fun a t => t = { a with restart.resetLineLow := false }) ∧
    (∀ strap zone damage, s.station.Settled →
      (s.station.restart.phase ∈ [.warm .supplyLow, .warm .resetLine] ∧ s.station.restart.logicSupply ≠ .normal) ∨
        (s.station.restart.phase = .warm .resetLine ∧ s.station.restart.resetLineLow = true) →
      Runs (.warmStartEnd strap zone damage) s fun a t => t = a) ∧
    (∀ cause strap zone damage,
      let afresh := s.station.retentionCheck ^^^ damage
      s.station.restart.phase = .warm cause → cause ∈ [.supplyLow, .resetLine, .ordered] →
      s.station.restart.logicSupply = .normal → s.station.restart.resetLineLow = false →
      s.station.link.queue = [] → s.station.Settled →
      s.station.claims.announcements = [] → s.station.claims.walk = none →
      s.station.claims.claims.length ≤ 4 →
      (afresh ≠ s.station.restart.check →
        Runs (.warmStartEnd strap zone damage) s fun a t => cold .retentionBad strap zone a t) ∧
      (afresh = s.station.restart.check → strap.toNat = 0 ∨ 28 ≤ strap.toNat →
        Runs (.warmStartEnd strap zone damage) s fun a t =>
          t.restart.mode = .strapFault ∧ t.restart.phase = .running ∧ t.restart.station = strap.toNat ∧
          t.taps = a.taps ∧ t.lockers = a.lockers ∧ t.claims = a.claims ∧ t.cabins = a.cabins ∧
          t.tally.neighbours = [] ∧ t.link.queue = [] ∧
          t.panel.line = Text.strapFault.window 0) ∧
      (afresh = s.station.restart.check → 1 ≤ strap.toNat → strap.toNat ≤ 27 →
        Runs (.warmStartEnd strap zone damage) s fun a t =>
          let run := a.orders.lockersLockClosed = true ∧ a.orders.cabinsLockClosed = true
          t.restart.phase = .running ∧ t.restart.mode = (if run then .run else .unset) ∧
          t.restart.station = strap.toNat ∧ t.restart.zone = zone ∧ t.restart.cause = cause ∧
          t.restart.warmStarts = satInc a.restart.warmStarts ∧ t.restart.settleDue = true ∧ kept a t ∧
          t.taps.refused.toNat = min 65535 (a.taps.refused.toNat + a.taps.heldRefused.toNat) ∧
          t.taps.heldRefused = 0 ∧
          t.lockers.lockers = a.lockers.lockers ∧
          t.cabins.cabins = (a.cabins.cabins.map fun c : Cabin => { c with unsettled := true }) ∧
          t.tally.neighbours.map (·.station) =
            (List.range 28).filter (fun n => decide (1 ≤ n) && decide (n ≠ strap.toNat)) ∧
          (∀ n ∈ t.tally.neighbours, n.heard = false) ∧ t.tally.timer = some (a.now + 2000) ∧
          (∀ g < 4, t.drive.latches.getLsbD g = (a.drive.latches.getLsbD g || a.drive.inputs.getLsbD g)) ∧
          (a.link.up = true → ∃ f ∈ t.link.queue, f.kind = .tally) ∧
          (a.link.up = false →
            t.link.up = false ∧ t.claims.announcements = [] ∧ t.claims.walk = none ∧
            ∀ f ∈ t.link.queue, f.kind = .recall) ∧
          ((∃ f ∈ t.link.queue, f.kind = .recall) ↔
            a.restart.mode = .recovering ∧ a.restart.recallDelivered = false) ∧
          (run →
            t.claims.claims = [] ∧
            t.claims.yielded.toNat =
              min 65535 (a.claims.yielded.toNat + a.claims.claims.countP fun c => decide (c.state ≠ .queued)) ∧
            t.claims.failed.toNat =
              min 65535 (a.claims.failed.toNat + a.claims.claims.countP fun c => decide (c.state = .queued)) ∧
            (a.link.up = true →
              (∀ c ∈ a.claims.claims, ∀ w, c.state = .sent w →
                ∃ f ∈ t.link.queue, f.kind = .yield ∧ f.content = partyBytes c.party ++ [oneByte c.locker]) ∧
              ∀ h ∈ a.lockers.holdings, ∀ l, h.unannounced = true →
                a.lockers.lockers.map (·.number) = (List.range a.lockers.lockers.length).map (· + 1) →
                (a.lockers.holdings.map (·.locker)).Nodup → a.locker? h.locker = some l →
                (a.lockers.holdings.countP fun g => g.unannounced && decide (g.locker < h.locker)) < 2 →
                ∃ f ∈ t.link.queue, f.kind = .claim ∧
                  f.content =
                    partyBytes h.party ++ [oneByte h.locker] ++ threeBytes h.serial ++
                      [if l.size = .large then 1 else 0] ∧
                  { locker := h.locker, frame := f.id } ∈ t.claims.announcements)))) ∧
    (∀ cmd, cmd ≠ .logicSupplyLost → s.station.DriveSafe → s.station.restart.phase = .running →
      s.station.restart.mode = .strapFault → Runs cmd s fun a t => t.retained = a.retained) ∧
    ∀ u, s.station.live = true → s.station.restart.windowEnd = some u →
      Runs .recoveryWindowExpiry s fun a t =>
        t = { a with now := max a.now u, restart.mode := .run, restart.windowEnd := none }

/-- R46, R108, R160 to R165: a sample enters the history and moves each filtered level that three of four samples
contradict; then the events of that instant, one for each record whose level has moved, run as their rows do, on the
levels of that instant, in some order. Four samples load the filters, a tie by the last, and a sample that finds the
load's end still waiting ends the load first. After a warm start every locker and every cabin is then settled from its
state before the start and its loaded levels; a locker or a cabin taken since keeps its state (notes/assumptions/12.md,
40.md). -/
def Obligations.ScannerRows : Prop :=
  (∀ (x a b c d : Levels) (s : State),
    s.station.live = true → s.station.scan.loaded = true → s.station.scan.history = [a, b, c, d] →
    (∀ e ∈ s.station.deliveries, (∃ tap, e = .lockerTap tap) ∨ ∃ n tap, e = .cabinTap n tap) →
    Runs (.senseSample x) s fun r t =>
      ∃ (new : Levels) (events : List Instr),
        let old := r.scan.level
        let moved (bit : Levels → Bool) : Prop :=
          bit new = if 3 ≤ ([x, a, b, c].filter fun y => bit y != bit old).length then !bit old else bit old
        let instant : Station :=
          { r with
            now := max r.now r.scan.sampleDue
            scan :=
              { r.scan with
                switches := x
                history := [x, a, b, c]
                level := new
                sampleDue := r.scan.sampleDue + r.orders.setup.filterInterval } }
        (∀ i, i < 60 → moved (·.door.getLsbD i) ∧ moved (·.bolt.getLsbD i)) ∧
        (∀ i, i < 8 → moved (·.latch.getLsbD i) ∧ moved (·.pad.getLsbD i)) ∧
        t = events.foldl
          (fun u e =>
            match exec e { pending := [], station := u } with
            | .next v => v.station
            | _ => u) instant ∧
        events.Nodup ∧
        (∀ e ∈ events, ∃ n, 1 ≤ n ∧
          e ∈ [.doorClosed n, .doorOpened n, .boltEvent n true, .boltEvent n false, .latchEvent n true,
            .latchEvent n false, .presenceSeen n, .presenceClear n]) ∧
        ∀ n, 1 ≤ n →
          let locker := n ≤ r.lockers.lockers.length ∧ n ≤ 60
          let cabin := n ≤ r.cabins.cabins.length ∧ n ≤ 8
          let rises (was is : Bool) : Prop := was = false ∧ is = true
          (.doorClosed n ∈ events ↔ locker ∧ rises (old.door.getLsbD (n - 1)) (new.door.getLsbD (n - 1))) ∧
          (.doorOpened n ∈ events ↔ locker ∧ rises (new.door.getLsbD (n - 1)) (old.door.getLsbD (n - 1))) ∧
          (.boltEvent n true ∈ events ↔ locker ∧ rises (old.bolt.getLsbD (n - 1)) (new.bolt.getLsbD (n - 1))) ∧
          (.boltEvent n false ∈ events ↔ locker ∧ rises (new.bolt.getLsbD (n - 1)) (old.bolt.getLsbD (n - 1))) ∧
          (.latchEvent n true ∈ events ↔
            cabin ∧ rises (old.latch.getLsbD (n - 1)) (new.latch.getLsbD (n - 1))) ∧
          (.latchEvent n false ∈ events ↔
            cabin ∧ rises (new.latch.getLsbD (n - 1)) (old.latch.getLsbD (n - 1))) ∧
          (.presenceSeen n ∈ events ↔ n ≤ 8 ∧ rises (old.pad.getLsbD (n - 1)) (new.pad.getLsbD (n - 1))) ∧
          (.presenceClear n ∈ events ↔ n ≤ 8 ∧ rises (new.pad.getLsbD (n - 1)) (old.pad.getLsbD (n - 1)))) ∧
  (∀ (x : Levels) (s : State), s.station.live = true → s.station.scan.loaded = false →
    s.station.scan.history.length ≤ 3 →
    Runs (.senseSample x) s fun r t =>
      t = { r with
            now := max r.now r.scan.sampleDue
            deliveries :=
              r.deliveries ++ if r.scan.history.length = 3 then [.filterLoadEnd] else []
            scan :=
              { r.scan with
                switches := x
                history := x :: r.scan.history
                sampleDue := r.scan.sampleDue + r.orders.setup.filterInterval } }) ∧
  (∀ (x : Levels) (s : State), s.station.live = true → s.station.scan.loaded = false →
    s.station.scan.history.length = 4 → (∀ e ∈ s.station.deliveries, ∀ y, e ≠ .senseSample y) →
    Runs (.senseSample x) s fun _ t =>
      ∃ u : State, exec .filterLoadEnd s = .next u ∧ exec (.senseSample x) u = .next { s with station := t }) ∧
  ∀ (a b c d : Levels) (s : State), s.station.live = true → s.station.scan.loaded = false →
    s.station.scan.history = [a, b, c, d] →
    Runs .filterLoadEnd s fun r t =>
      ∃ new : Levels,
        let taken (bit : Levels → Bool) : Prop :=
          let made := ([a, b, c, d].filter bit).length
          bit new = if 3 ≤ made then true else if made ≤ 1 then false else bit a
        let loaded : Station :=
          { r with
            scan :=
              { r.scan with
                loaded := true
                level := new
                pads := r.scan.pads.map fun p =>
                  { p with
                    presence := if new.pad.getLsbD (p.number - 1) then .confirmed else .clear
                    confirmAt := none } } }
        let settledLocker (u : Station) (l : Locker) : Station :=
          let n := l.number
          let held : Station := if u.doorClosed n = true then u.lockLocker n else u.settleLocker n .opened
          let driven : Station :=
            if (u.holdingAt n).isSome = true then held
            else
              match l.returnState with
              | some .orphan => if u.doorClosed n = true then u.settleLocker n .orphan else u.freeLocker n
              | some .outOfService => u.settleLocker n .outOfService
              | _ => u.freeLocker n
          if (u.claimAt n).isSome = true ∨ (u.request? (n - 1)).isSome = true then u
          else
            match l.state with
            | .claiming => u.freeLocker n
            | .unbolting => driven
            | .unbolted => driven
            | .opened => held
            | .locked => held
            | .unsecured => held
            | .free => u.freeLocker n
            | .orphan => u.settleLocker n .orphan
            | .outOfService => u.settleLocker n .outOfService
            | .jammed => u
        let emptied (state : CabinState) (clock : Option (BitVec 16)) (k : Cabin) : Cabin :=
          { k with
            state
            occupant := none
            occupancy := clock.getD k.occupancy
            clearMoment := none
            reservedFor := none
            overstay := false
            graceAt := none
            admitAt := none
            vacateAt := none
            seconds := 0
            unsettled := false }
        let settledCabin (u : Station) (n : Nat) : Station :=
          let present := u.presence n = .confirmed
          let freed : Station := (u.changeCabin n (emptied .free none)).setLatchTarget n (some .unlatched)
          let occupied : Station :=
            (u.changeCabin n (emptied .occupied (some u.cabins.clock))).setLatchTarget n none
          match u.cabin? n with
          | none => u
          | some k =>
            if k.unsettled = false then u.resumeCabin n
            else
              match k.state with
              | .outOfService => u.changeCabin n fun k => { k with unsettled := false }
              | .fault => u.changeCabin n fun k => { k with unsettled := false }
              | .occupied =>
                if present then
                  (u.changeCabin n fun k => { k with unsettled := false, clearMoment := none }).setLatchTarget n
                    none
                else freed
              | _ => if present then occupied else freed
        let lockers : Station :=
          r.lockers.lockers.foldl settledLocker { loaded with restart.settleDue := false }
        let cabins : Station :=
          { lockers with
            cabins.cabins := lockers.cabins.cabins.map fun k =>
              { k with
                presence := lockers.presence k.number
                latchPosition := lockers.latchLevel k.number
                latchMoving := (lockers.request? (59 + k.number)).isSome } }
        (∀ i, i < 60 → taken (·.door.getLsbD i) ∧ taken (·.bolt.getLsbD i)) ∧
        (∀ i, i < 8 → taken (·.latch.getLsbD i) ∧ taken (·.pad.getLsbD i)) ∧
        (r.restart.settleDue = false → t = loaded) ∧
        (r.restart.settleDue = true →
          t = cabins.cabins.cabins.foldl (fun u k => settledCabin u k.number) cabins)
end

