-- ==== Sys2Proof/Laws/State.lean ====
section
/-!
SUPPORT. What each record update of the station leaves alone and what it writes: one lemma for each field,
so that no proof unfolds an update.
-/

namespace Sys2Proof.Machine

open Sys2Proof

variable (s : Station)

/-! ### take -/

@[simp] theorem Station.take_now (c : Instr) : (s.take c).now = s.now := rfl
@[simp] theorem Station.take_deliveries (c : Instr) :
    (s.take c).deliveries = s.deliveries.eraseP (sameEvent c) := rfl
@[simp] theorem Station.take_taps (c : Instr) : (s.take c).taps = s.taps := rfl
@[simp] theorem Station.take_lockers (c : Instr) : (s.take c).lockers = s.lockers := rfl
@[simp] theorem Station.take_claims (c : Instr) : (s.take c).claims = s.claims := rfl
@[simp] theorem Station.take_directory (c : Instr) : (s.take c).directory = s.directory := rfl
@[simp] theorem Station.take_tally (c : Instr) : (s.take c).tally = s.tally := rfl
@[simp] theorem Station.take_cabins (c : Instr) : (s.take c).cabins = s.cabins := rfl
@[simp] theorem Station.take_drive (c : Instr) : (s.take c).drive = s.drive := rfl
@[simp] theorem Station.take_scan (c : Instr) : (s.take c).scan = s.scan := rfl
@[simp] theorem Station.take_link (c : Instr) : (s.take c).link = s.link := rfl
@[simp] theorem Station.take_orders (c : Instr) : (s.take c).orders = s.orders := rfl
@[simp] theorem Station.take_panel (c : Instr) : (s.take c).panel = s.panel := rfl
@[simp] theorem Station.take_restart (c : Instr) : (s.take c).restart = s.restart := rfl

/-! ### deliver -/

@[simp] theorem Station.deliver_now (c : Instr) : (s.deliver c).now = s.now := rfl
@[simp] theorem Station.deliver_deliveries (c : Instr) : (s.deliver c).deliveries = s.deliveries ++ [c] := rfl
@[simp] theorem Station.deliver_taps (c : Instr) : (s.deliver c).taps = s.taps := rfl
@[simp] theorem Station.deliver_lockers (c : Instr) : (s.deliver c).lockers = s.lockers := rfl
@[simp] theorem Station.deliver_claims (c : Instr) : (s.deliver c).claims = s.claims := rfl
@[simp] theorem Station.deliver_directory (c : Instr) : (s.deliver c).directory = s.directory := rfl
@[simp] theorem Station.deliver_tally (c : Instr) : (s.deliver c).tally = s.tally := rfl
@[simp] theorem Station.deliver_cabins (c : Instr) : (s.deliver c).cabins = s.cabins := rfl
@[simp] theorem Station.deliver_drive (c : Instr) : (s.deliver c).drive = s.drive := rfl
@[simp] theorem Station.deliver_scan (c : Instr) : (s.deliver c).scan = s.scan := rfl
@[simp] theorem Station.deliver_link (c : Instr) : (s.deliver c).link = s.link := rfl
@[simp] theorem Station.deliver_orders (c : Instr) : (s.deliver c).orders = s.orders := rfl
@[simp] theorem Station.deliver_panel (c : Instr) : (s.deliver c).panel = s.panel := rfl
@[simp] theorem Station.deliver_restart (c : Instr) : (s.deliver c).restart = s.restart := rfl

/-! ### reach -/

@[simp] theorem Station.reach_now (t : Moment) : (s.reach t).now = max s.now t := rfl
@[simp] theorem Station.reach_deliveries (t : Moment) : (s.reach t).deliveries = s.deliveries := rfl
@[simp] theorem Station.reach_taps (t : Moment) : (s.reach t).taps = s.taps := rfl
@[simp] theorem Station.reach_lockers (t : Moment) : (s.reach t).lockers = s.lockers := rfl
@[simp] theorem Station.reach_claims (t : Moment) : (s.reach t).claims = s.claims := rfl
@[simp] theorem Station.reach_directory (t : Moment) : (s.reach t).directory = s.directory := rfl
@[simp] theorem Station.reach_tally (t : Moment) : (s.reach t).tally = s.tally := rfl
@[simp] theorem Station.reach_cabins (t : Moment) : (s.reach t).cabins = s.cabins := rfl
@[simp] theorem Station.reach_drive (t : Moment) : (s.reach t).drive = s.drive := rfl
@[simp] theorem Station.reach_scan (t : Moment) : (s.reach t).scan = s.scan := rfl
@[simp] theorem Station.reach_link (t : Moment) : (s.reach t).link = s.link := rfl
@[simp] theorem Station.reach_orders (t : Moment) : (s.reach t).orders = s.orders := rfl
@[simp] theorem Station.reach_panel (t : Moment) : (s.reach t).panel = s.panel := rfl
@[simp] theorem Station.reach_restart (t : Moment) : (s.reach t).restart = s.restart := rfl

/-! ### changeLocker -/

@[simp] theorem Station.changeLocker_now (n : Nat) (f : Locker → Locker) :
    (s.changeLocker n f).now = s.now := rfl
@[simp] theorem Station.changeLocker_deliveries (n : Nat) (f : Locker → Locker) :
    (s.changeLocker n f).deliveries = s.deliveries := rfl
@[simp] theorem Station.changeLocker_taps (n : Nat) (f : Locker → Locker) :
    (s.changeLocker n f).taps = s.taps := rfl
@[simp] theorem Station.changeLocker_lockers_lockers (n : Nat) (f : Locker → Locker) :
    (s.changeLocker n f).lockers.lockers =
      updateWhere (fun l => decide (l.number = n)) f s.lockers.lockers := rfl
@[simp] theorem Station.changeLocker_lockers_holdings (n : Nat) (f : Locker → Locker) :
    (s.changeLocker n f).lockers.holdings = s.lockers.holdings := rfl
@[simp] theorem Station.changeLocker_lockers_minute (n : Nat) (f : Locker → Locker) :
    (s.changeLocker n f).lockers.minute = s.lockers.minute := rfl
@[simp] theorem Station.changeLocker_lockers_minuteDue (n : Nat) (f : Locker → Locker) :
    (s.changeLocker n f).lockers.minuteDue = s.lockers.minuteDue := rfl
@[simp] theorem Station.changeLocker_lockers_forcedDoors (n : Nat) (f : Locker → Locker) :
    (s.changeLocker n f).lockers.forcedDoors = s.lockers.forcedDoors := rfl
@[simp] theorem Station.changeLocker_lockers_doubles (n : Nat) (f : Locker → Locker) :
    (s.changeLocker n f).lockers.doubles = s.lockers.doubles := rfl
@[simp] theorem Station.changeLocker_claims (n : Nat) (f : Locker → Locker) :
    (s.changeLocker n f).claims = s.claims := rfl
@[simp] theorem Station.changeLocker_directory (n : Nat) (f : Locker → Locker) :
    (s.changeLocker n f).directory = s.directory := rfl
@[simp] theorem Station.changeLocker_tally (n : Nat) (f : Locker → Locker) :
    (s.changeLocker n f).tally = s.tally := rfl
@[simp] theorem Station.changeLocker_cabins (n : Nat) (f : Locker → Locker) :
    (s.changeLocker n f).cabins = s.cabins := rfl
@[simp] theorem Station.changeLocker_drive (n : Nat) (f : Locker → Locker) :
    (s.changeLocker n f).drive = s.drive := rfl
@[simp] theorem Station.changeLocker_scan (n : Nat) (f : Locker → Locker) :
    (s.changeLocker n f).scan = s.scan := rfl
@[simp] theorem Station.changeLocker_link (n : Nat) (f : Locker → Locker) :
    (s.changeLocker n f).link = s.link := rfl
@[simp] theorem Station.changeLocker_orders (n : Nat) (f : Locker → Locker) :
    (s.changeLocker n f).orders = s.orders := rfl
@[simp] theorem Station.changeLocker_panel (n : Nat) (f : Locker → Locker) :
    (s.changeLocker n f).panel = s.panel := rfl
@[simp] theorem Station.changeLocker_restart (n : Nat) (f : Locker → Locker) :
    (s.changeLocker n f).restart = s.restart := rfl

/-! ### changeHolding -/

@[simp] theorem Station.changeHolding_now (n : Nat) (f : Holding → Holding) :
    (s.changeHolding n f).now = s.now := rfl
@[simp] theorem Station.changeHolding_deliveries (n : Nat) (f : Holding → Holding) :
    (s.changeHolding n f).deliveries = s.deliveries := rfl
@[simp] theorem Station.changeHolding_taps (n : Nat) (f : Holding → Holding) :
    (s.changeHolding n f).taps = s.taps := rfl
@[simp] theorem Station.changeHolding_lockers_lockers (n : Nat) (f : Holding → Holding) :
    (s.changeHolding n f).lockers.lockers = s.lockers.lockers := rfl
@[simp] theorem Station.changeHolding_lockers_holdings (n : Nat) (f : Holding → Holding) :
    (s.changeHolding n f).lockers.holdings =
      updateWhere (fun h => decide (h.locker = n)) f s.lockers.holdings := rfl
@[simp] theorem Station.changeHolding_lockers_minute (n : Nat) (f : Holding → Holding) :
    (s.changeHolding n f).lockers.minute = s.lockers.minute := rfl
@[simp] theorem Station.changeHolding_lockers_minuteDue (n : Nat) (f : Holding → Holding) :
    (s.changeHolding n f).lockers.minuteDue = s.lockers.minuteDue := rfl
@[simp] theorem Station.changeHolding_lockers_forcedDoors (n : Nat) (f : Holding → Holding) :
    (s.changeHolding n f).lockers.forcedDoors = s.lockers.forcedDoors := rfl
@[simp] theorem Station.changeHolding_lockers_doubles (n : Nat) (f : Holding → Holding) :
    (s.changeHolding n f).lockers.doubles = s.lockers.doubles := rfl
@[simp] theorem Station.changeHolding_claims (n : Nat) (f : Holding → Holding) :
    (s.changeHolding n f).claims = s.claims := rfl
@[simp] theorem Station.changeHolding_directory (n : Nat) (f : Holding → Holding) :
    (s.changeHolding n f).directory = s.directory := rfl
@[simp] theorem Station.changeHolding_tally (n : Nat) (f : Holding → Holding) :
    (s.changeHolding n f).tally = s.tally := rfl
@[simp] theorem Station.changeHolding_cabins (n : Nat) (f : Holding → Holding) :
    (s.changeHolding n f).cabins = s.cabins := rfl
@[simp] theorem Station.changeHolding_drive (n : Nat) (f : Holding → Holding) :
    (s.changeHolding n f).drive = s.drive := rfl
@[simp] theorem Station.changeHolding_scan (n : Nat) (f : Holding → Holding) :
    (s.changeHolding n f).scan = s.scan := rfl
@[simp] theorem Station.changeHolding_link (n : Nat) (f : Holding → Holding) :
    (s.changeHolding n f).link = s.link := rfl
@[simp] theorem Station.changeHolding_orders (n : Nat) (f : Holding → Holding) :
    (s.changeHolding n f).orders = s.orders := rfl
@[simp] theorem Station.changeHolding_panel (n : Nat) (f : Holding → Holding) :
    (s.changeHolding n f).panel = s.panel := rfl
@[simp] theorem Station.changeHolding_restart (n : Nat) (f : Holding → Holding) :
    (s.changeHolding n f).restart = s.restart := rfl

/-! ### changeClaim -/

@[simp] theorem Station.changeClaim_now (p : PartyKey) (f : Claim → Claim) :
    (s.changeClaim p f).now = s.now := rfl
@[simp] theorem Station.changeClaim_deliveries (p : PartyKey) (f : Claim → Claim) :
    (s.changeClaim p f).deliveries = s.deliveries := rfl
@[simp] theorem Station.changeClaim_taps (p : PartyKey) (f : Claim → Claim) :
    (s.changeClaim p f).taps = s.taps := rfl
@[simp] theorem Station.changeClaim_lockers (p : PartyKey) (f : Claim → Claim) :
    (s.changeClaim p f).lockers = s.lockers := rfl
@[simp] theorem Station.changeClaim_claims_claims (p : PartyKey) (f : Claim → Claim) :
    (s.changeClaim p f).claims.claims = updateWhere (fun c => decide (c.party = p)) f s.claims.claims := rfl
@[simp] theorem Station.changeClaim_claims_announcements (p : PartyKey) (f : Claim → Claim) :
    (s.changeClaim p f).claims.announcements = s.claims.announcements := rfl
@[simp] theorem Station.changeClaim_claims_walk (p : PartyKey) (f : Claim → Claim) :
    (s.changeClaim p f).claims.walk = s.claims.walk := rfl
@[simp] theorem Station.changeClaim_claims_confirmed (p : PartyKey) (f : Claim → Claim) :
    (s.changeClaim p f).claims.confirmed = s.claims.confirmed := rfl
@[simp] theorem Station.changeClaim_claims_yielded (p : PartyKey) (f : Claim → Claim) :
    (s.changeClaim p f).claims.yielded = s.claims.yielded := rfl
@[simp] theorem Station.changeClaim_claims_failed (p : PartyKey) (f : Claim → Claim) :
    (s.changeClaim p f).claims.failed = s.claims.failed := rfl
@[simp] theorem Station.changeClaim_directory (p : PartyKey) (f : Claim → Claim) :
    (s.changeClaim p f).directory = s.directory := rfl
@[simp] theorem Station.changeClaim_tally (p : PartyKey) (f : Claim → Claim) :
    (s.changeClaim p f).tally = s.tally := rfl
@[simp] theorem Station.changeClaim_cabins (p : PartyKey) (f : Claim → Claim) :
    (s.changeClaim p f).cabins = s.cabins := rfl
@[simp] theorem Station.changeClaim_drive (p : PartyKey) (f : Claim → Claim) :
    (s.changeClaim p f).drive = s.drive := rfl
@[simp] theorem Station.changeClaim_scan (p : PartyKey) (f : Claim → Claim) :
    (s.changeClaim p f).scan = s.scan := rfl
@[simp] theorem Station.changeClaim_link (p : PartyKey) (f : Claim → Claim) :
    (s.changeClaim p f).link = s.link := rfl
@[simp] theorem Station.changeClaim_orders (p : PartyKey) (f : Claim → Claim) :
    (s.changeClaim p f).orders = s.orders := rfl
@[simp] theorem Station.changeClaim_panel (p : PartyKey) (f : Claim → Claim) :
    (s.changeClaim p f).panel = s.panel := rfl
@[simp] theorem Station.changeClaim_restart (p : PartyKey) (f : Claim → Claim) :
    (s.changeClaim p f).restart = s.restart := rfl

/-! ### changeCabin -/

@[simp] theorem Station.changeCabin_now (n : Nat) (f : Cabin → Cabin) : (s.changeCabin n f).now = s.now := rfl
@[simp] theorem Station.changeCabin_deliveries (n : Nat) (f : Cabin → Cabin) :
    (s.changeCabin n f).deliveries = s.deliveries := rfl
@[simp] theorem Station.changeCabin_taps (n : Nat) (f : Cabin → Cabin) :
    (s.changeCabin n f).taps = s.taps := rfl
@[simp] theorem Station.changeCabin_lockers (n : Nat) (f : Cabin → Cabin) :
    (s.changeCabin n f).lockers = s.lockers := rfl
@[simp] theorem Station.changeCabin_claims (n : Nat) (f : Cabin → Cabin) :
    (s.changeCabin n f).claims = s.claims := rfl
@[simp] theorem Station.changeCabin_directory (n : Nat) (f : Cabin → Cabin) :
    (s.changeCabin n f).directory = s.directory := rfl
@[simp] theorem Station.changeCabin_tally (n : Nat) (f : Cabin → Cabin) :
    (s.changeCabin n f).tally = s.tally := rfl
@[simp] theorem Station.changeCabin_cabins_cabins (n : Nat) (f : Cabin → Cabin) :
    (s.changeCabin n f).cabins.cabins = updateWhere (fun c => decide (c.number = n)) f s.cabins.cabins := rfl
@[simp] theorem Station.changeCabin_cabins_queue (n : Nat) (f : Cabin → Cabin) :
    (s.changeCabin n f).cabins.queue = s.cabins.queue := rfl
@[simp] theorem Station.changeCabin_cabins_dwell (n : Nat) (f : Cabin → Cabin) :
    (s.changeCabin n f).cabins.dwell = s.cabins.dwell := rfl
@[simp] theorem Station.changeCabin_cabins_clock (n : Nat) (f : Cabin → Cabin) :
    (s.changeCabin n f).cabins.clock = s.cabins.clock := rfl
@[simp] theorem Station.changeCabin_cabins_clockDue (n : Nat) (f : Cabin → Cabin) :
    (s.changeCabin n f).cabins.clockDue = s.cabins.clockDue := rfl
@[simp] theorem Station.changeCabin_cabins_missed (n : Nat) (f : Cabin → Cabin) :
    (s.changeCabin n f).cabins.missed = s.cabins.missed := rfl
@[simp] theorem Station.changeCabin_drive (n : Nat) (f : Cabin → Cabin) :
    (s.changeCabin n f).drive = s.drive := rfl
@[simp] theorem Station.changeCabin_scan (n : Nat) (f : Cabin → Cabin) :
    (s.changeCabin n f).scan = s.scan := rfl
@[simp] theorem Station.changeCabin_link (n : Nat) (f : Cabin → Cabin) :
    (s.changeCabin n f).link = s.link := rfl
@[simp] theorem Station.changeCabin_orders (n : Nat) (f : Cabin → Cabin) :
    (s.changeCabin n f).orders = s.orders := rfl
@[simp] theorem Station.changeCabin_panel (n : Nat) (f : Cabin → Cabin) :
    (s.changeCabin n f).panel = s.panel := rfl
@[simp] theorem Station.changeCabin_restart (n : Nat) (f : Cabin → Cabin) :
    (s.changeCabin n f).restart = s.restart := rfl

/-! ### changeEntry -/

@[simp] theorem Station.changeEntry_now (b : BitVec 24) (f : QueueEntry → QueueEntry) :
    (s.changeEntry b f).now = s.now := rfl
@[simp] theorem Station.changeEntry_deliveries (b : BitVec 24) (f : QueueEntry → QueueEntry) :
    (s.changeEntry b f).deliveries = s.deliveries := rfl
@[simp] theorem Station.changeEntry_taps (b : BitVec 24) (f : QueueEntry → QueueEntry) :
    (s.changeEntry b f).taps = s.taps := rfl
@[simp] theorem Station.changeEntry_lockers (b : BitVec 24) (f : QueueEntry → QueueEntry) :
    (s.changeEntry b f).lockers = s.lockers := rfl
@[simp] theorem Station.changeEntry_claims (b : BitVec 24) (f : QueueEntry → QueueEntry) :
    (s.changeEntry b f).claims = s.claims := rfl
@[simp] theorem Station.changeEntry_directory (b : BitVec 24) (f : QueueEntry → QueueEntry) :
    (s.changeEntry b f).directory = s.directory := rfl
@[simp] theorem Station.changeEntry_tally (b : BitVec 24) (f : QueueEntry → QueueEntry) :
    (s.changeEntry b f).tally = s.tally := rfl
@[simp] theorem Station.changeEntry_cabins_cabins (b : BitVec 24) (f : QueueEntry → QueueEntry) :
    (s.changeEntry b f).cabins.cabins = s.cabins.cabins := rfl
@[simp] theorem Station.changeEntry_cabins_queue (b : BitVec 24) (f : QueueEntry → QueueEntry) :
    (s.changeEntry b f).cabins.queue = updateWhere (fun e => decide (e.serial = b)) f s.cabins.queue := rfl
@[simp] theorem Station.changeEntry_cabins_dwell (b : BitVec 24) (f : QueueEntry → QueueEntry) :
    (s.changeEntry b f).cabins.dwell = s.cabins.dwell := rfl
@[simp] theorem Station.changeEntry_cabins_clock (b : BitVec 24) (f : QueueEntry → QueueEntry) :
    (s.changeEntry b f).cabins.clock = s.cabins.clock := rfl
@[simp] theorem Station.changeEntry_cabins_clockDue (b : BitVec 24) (f : QueueEntry → QueueEntry) :
    (s.changeEntry b f).cabins.clockDue = s.cabins.clockDue := rfl
@[simp] theorem Station.changeEntry_cabins_missed (b : BitVec 24) (f : QueueEntry → QueueEntry) :
    (s.changeEntry b f).cabins.missed = s.cabins.missed := rfl
@[simp] theorem Station.changeEntry_drive (b : BitVec 24) (f : QueueEntry → QueueEntry) :
    (s.changeEntry b f).drive = s.drive := rfl
@[simp] theorem Station.changeEntry_scan (b : BitVec 24) (f : QueueEntry → QueueEntry) :
    (s.changeEntry b f).scan = s.scan := rfl
@[simp] theorem Station.changeEntry_link (b : BitVec 24) (f : QueueEntry → QueueEntry) :
    (s.changeEntry b f).link = s.link := rfl
@[simp] theorem Station.changeEntry_orders (b : BitVec 24) (f : QueueEntry → QueueEntry) :
    (s.changeEntry b f).orders = s.orders := rfl
@[simp] theorem Station.changeEntry_panel (b : BitVec 24) (f : QueueEntry → QueueEntry) :
    (s.changeEntry b f).panel = s.panel := rfl
@[simp] theorem Station.changeEntry_restart (b : BitVec 24) (f : QueueEntry → QueueEntry) :
    (s.changeEntry b f).restart = s.restart := rfl

/-! ### removeEntry -/

@[simp] theorem Station.removeEntry_now (b : BitVec 24) : (s.removeEntry b).now = s.now := rfl
@[simp] theorem Station.removeEntry_deliveries (b : BitVec 24) :
    (s.removeEntry b).deliveries = s.deliveries := rfl
@[simp] theorem Station.removeEntry_taps (b : BitVec 24) : (s.removeEntry b).taps = s.taps := rfl
@[simp] theorem Station.removeEntry_lockers (b : BitVec 24) : (s.removeEntry b).lockers = s.lockers := rfl
@[simp] theorem Station.removeEntry_claims (b : BitVec 24) : (s.removeEntry b).claims = s.claims := rfl
@[simp] theorem Station.removeEntry_directory (b : BitVec 24) :
    (s.removeEntry b).directory = s.directory := rfl
@[simp] theorem Station.removeEntry_tally (b : BitVec 24) : (s.removeEntry b).tally = s.tally := rfl
@[simp] theorem Station.removeEntry_cabins_cabins (b : BitVec 24) :
    (s.removeEntry b).cabins.cabins = s.cabins.cabins := rfl
@[simp] theorem Station.removeEntry_cabins_queue (b : BitVec 24) :
    (s.removeEntry b).cabins.queue = s.cabins.queue.filter fun e => decide (e.serial ≠ b) := rfl
@[simp] theorem Station.removeEntry_cabins_dwell (b : BitVec 24) :
    (s.removeEntry b).cabins.dwell = s.cabins.dwell := rfl
@[simp] theorem Station.removeEntry_cabins_clock (b : BitVec 24) :
    (s.removeEntry b).cabins.clock = s.cabins.clock := rfl
@[simp] theorem Station.removeEntry_cabins_clockDue (b : BitVec 24) :
    (s.removeEntry b).cabins.clockDue = s.cabins.clockDue := rfl
@[simp] theorem Station.removeEntry_cabins_missed (b : BitVec 24) :
    (s.removeEntry b).cabins.missed = s.cabins.missed := rfl
@[simp] theorem Station.removeEntry_drive (b : BitVec 24) : (s.removeEntry b).drive = s.drive := rfl
@[simp] theorem Station.removeEntry_scan (b : BitVec 24) : (s.removeEntry b).scan = s.scan := rfl
@[simp] theorem Station.removeEntry_link (b : BitVec 24) : (s.removeEntry b).link = s.link := rfl
@[simp] theorem Station.removeEntry_orders (b : BitVec 24) : (s.removeEntry b).orders = s.orders := rfl
@[simp] theorem Station.removeEntry_panel (b : BitVec 24) : (s.removeEntry b).panel = s.panel := rfl
@[simp] theorem Station.removeEntry_restart (b : BitVec 24) : (s.removeEntry b).restart = s.restart := rfl

/-! ### changePad -/

@[simp] theorem Station.changePad_now (n : Nat) (f : Pad → Pad) : (s.changePad n f).now = s.now := rfl
@[simp] theorem Station.changePad_deliveries (n : Nat) (f : Pad → Pad) :
    (s.changePad n f).deliveries = s.deliveries := rfl
@[simp] theorem Station.changePad_taps (n : Nat) (f : Pad → Pad) : (s.changePad n f).taps = s.taps := rfl
@[simp] theorem Station.changePad_lockers (n : Nat) (f : Pad → Pad) :
    (s.changePad n f).lockers = s.lockers := rfl
@[simp] theorem Station.changePad_claims (n : Nat) (f : Pad → Pad) :
    (s.changePad n f).claims = s.claims := rfl
@[simp] theorem Station.changePad_directory (n : Nat) (f : Pad → Pad) :
    (s.changePad n f).directory = s.directory := rfl
@[simp] theorem Station.changePad_tally (n : Nat) (f : Pad → Pad) : (s.changePad n f).tally = s.tally := rfl
@[simp] theorem Station.changePad_cabins (n : Nat) (f : Pad → Pad) :
    (s.changePad n f).cabins = s.cabins := rfl
@[simp] theorem Station.changePad_drive (n : Nat) (f : Pad → Pad) : (s.changePad n f).drive = s.drive := rfl
@[simp] theorem Station.changePad_scan_switches (n : Nat) (f : Pad → Pad) :
    (s.changePad n f).scan.switches = s.scan.switches := rfl
@[simp] theorem Station.changePad_scan_history (n : Nat) (f : Pad → Pad) :
    (s.changePad n f).scan.history = s.scan.history := rfl
@[simp] theorem Station.changePad_scan_level (n : Nat) (f : Pad → Pad) :
    (s.changePad n f).scan.level = s.scan.level := rfl
@[simp] theorem Station.changePad_scan_loaded (n : Nat) (f : Pad → Pad) :
    (s.changePad n f).scan.loaded = s.scan.loaded := rfl
@[simp] theorem Station.changePad_scan_pads (n : Nat) (f : Pad → Pad) :
    (s.changePad n f).scan.pads = updateWhere (fun p => decide (p.number = n)) f s.scan.pads := rfl
@[simp] theorem Station.changePad_scan_sampleDue (n : Nat) (f : Pad → Pad) :
    (s.changePad n f).scan.sampleDue = s.scan.sampleDue := rfl
@[simp] theorem Station.changePad_link (n : Nat) (f : Pad → Pad) : (s.changePad n f).link = s.link := rfl
@[simp] theorem Station.changePad_orders (n : Nat) (f : Pad → Pad) :
    (s.changePad n f).orders = s.orders := rfl
@[simp] theorem Station.changePad_panel (n : Nat) (f : Pad → Pad) : (s.changePad n f).panel = s.panel := rfl
@[simp] theorem Station.changePad_restart (n : Nat) (f : Pad → Pad) :
    (s.changePad n f).restart = s.restart := rfl

/-! ### changeInput -/

@[simp] theorem Station.changeInput_now (r : Reader) (f : ReaderInput → ReaderInput) :
    (s.changeInput r f).now = s.now := rfl
@[simp] theorem Station.changeInput_deliveries (r : Reader) (f : ReaderInput → ReaderInput) :
    (s.changeInput r f).deliveries = s.deliveries := rfl
@[simp] theorem Station.changeInput_taps_inputs (r : Reader) (f : ReaderInput → ReaderInput) :
    (s.changeInput r f).taps.inputs = updateWhere (fun i => decide (i.reader = r)) f s.taps.inputs := rfl
@[simp] theorem Station.changeInput_taps_accepted (r : Reader) (f : ReaderInput → ReaderInput) :
    (s.changeInput r f).taps.accepted = s.taps.accepted := rfl
@[simp] theorem Station.changeInput_taps_sinceRead (r : Reader) (f : ReaderInput → ReaderInput) :
    (s.changeInput r f).taps.sinceRead = s.taps.sinceRead := rfl
@[simp] theorem Station.changeInput_taps_refused (r : Reader) (f : ReaderInput → ReaderInput) :
    (s.changeInput r f).taps.refused = s.taps.refused := rfl
@[simp] theorem Station.changeInput_taps_heldRefused (r : Reader) (f : ReaderInput → ReaderInput) :
    (s.changeInput r f).taps.heldRefused = s.taps.heldRefused := rfl
@[simp] theorem Station.changeInput_lockers (r : Reader) (f : ReaderInput → ReaderInput) :
    (s.changeInput r f).lockers = s.lockers := rfl
@[simp] theorem Station.changeInput_claims (r : Reader) (f : ReaderInput → ReaderInput) :
    (s.changeInput r f).claims = s.claims := rfl
@[simp] theorem Station.changeInput_directory (r : Reader) (f : ReaderInput → ReaderInput) :
    (s.changeInput r f).directory = s.directory := rfl
@[simp] theorem Station.changeInput_tally (r : Reader) (f : ReaderInput → ReaderInput) :
    (s.changeInput r f).tally = s.tally := rfl
@[simp] theorem Station.changeInput_cabins (r : Reader) (f : ReaderInput → ReaderInput) :
    (s.changeInput r f).cabins = s.cabins := rfl
@[simp] theorem Station.changeInput_drive (r : Reader) (f : ReaderInput → ReaderInput) :
    (s.changeInput r f).drive = s.drive := rfl
@[simp] theorem Station.changeInput_scan (r : Reader) (f : ReaderInput → ReaderInput) :
    (s.changeInput r f).scan = s.scan := rfl
@[simp] theorem Station.changeInput_link (r : Reader) (f : ReaderInput → ReaderInput) :
    (s.changeInput r f).link = s.link := rfl
@[simp] theorem Station.changeInput_orders (r : Reader) (f : ReaderInput → ReaderInput) :
    (s.changeInput r f).orders = s.orders := rfl
@[simp] theorem Station.changeInput_panel (r : Reader) (f : ReaderInput → ReaderInput) :
    (s.changeInput r f).panel = s.panel := rfl
@[simp] theorem Station.changeInput_restart (r : Reader) (f : ReaderInput → ReaderInput) :
    (s.changeInput r f).restart = s.restart := rfl

/-! ### postMessage -/

@[simp] theorem Station.postMessage_now (m : Message) : (s.postMessage m).now = s.now := rfl
@[simp] theorem Station.postMessage_deliveries (m : Message) :
    (s.postMessage m).deliveries = s.deliveries := rfl
@[simp] theorem Station.postMessage_taps (m : Message) : (s.postMessage m).taps = s.taps := rfl
@[simp] theorem Station.postMessage_lockers (m : Message) : (s.postMessage m).lockers = s.lockers := rfl
@[simp] theorem Station.postMessage_claims (m : Message) : (s.postMessage m).claims = s.claims := rfl
@[simp] theorem Station.postMessage_directory (m : Message) : (s.postMessage m).directory = s.directory := rfl
@[simp] theorem Station.postMessage_tally (m : Message) : (s.postMessage m).tally = s.tally := rfl
@[simp] theorem Station.postMessage_cabins (m : Message) : (s.postMessage m).cabins = s.cabins := rfl
@[simp] theorem Station.postMessage_drive (m : Message) : (s.postMessage m).drive = s.drive := rfl
@[simp] theorem Station.postMessage_scan (m : Message) : (s.postMessage m).scan = s.scan := rfl
@[simp] theorem Station.postMessage_link (m : Message) : (s.postMessage m).link = s.link := rfl
@[simp] theorem Station.postMessage_orders (m : Message) : (s.postMessage m).orders = s.orders := rfl
@[simp] theorem Station.postMessage_panel_cursor (m : Message) :
    (s.postMessage m).panel.cursor = s.panel.cursor := rfl
@[simp] theorem Station.postMessage_panel_cursorTimer (m : Message) :
    (s.postMessage m).panel.cursorTimer = s.panel.cursorTimer := rfl
@[simp] theorem Station.postMessage_panel_message (m : Message) :
    (s.postMessage m).panel.message = some m := rfl
@[simp] theorem Station.postMessage_panel_holdEnd (m : Message) :
    (s.postMessage m).panel.holdEnd = some (s.now + 8000) := rfl
@[simp] theorem Station.postMessage_panel_secondTurn (m : Message) :
    (s.postMessage m).panel.secondTurn = false := rfl
@[simp] theorem Station.postMessage_panel_turnEnd (m : Message) :
    (s.postMessage m).panel.turnEnd = if m.second.isSome then some (s.now + 2000) else none := rfl
@[simp] theorem Station.postMessage_panel_scroll (m : Message) : (s.postMessage m).panel.scroll = 0 := rfl
@[simp] theorem Station.postMessage_panel_stepCount (m : Message) :
    (s.postMessage m).panel.stepCount = 0 := rfl
@[simp] theorem Station.postMessage_panel_frame (m : Message) :
    (s.postMessage m).panel.frame = s.panel.frame := rfl
@[simp] theorem Station.postMessage_panel_frameDue (m : Message) :
    (s.postMessage m).panel.frameDue = s.panel.frameDue := rfl
@[simp] theorem Station.postMessage_panel_cells (m : Message) :
    (s.postMessage m).panel.cells = s.panel.cells := rfl
@[simp] theorem Station.postMessage_panel_line (m : Message) :
    (s.postMessage m).panel.line = Text.window m.first 0 := rfl
@[simp] theorem Station.postMessage_restart (m : Message) : (s.postMessage m).restart = s.restart := rfl

/-! ### post -/

@[simp] theorem Station.post_now (x : Text) : (s.post x).now = s.now := rfl
@[simp] theorem Station.post_deliveries (x : Text) : (s.post x).deliveries = s.deliveries := rfl
@[simp] theorem Station.post_taps (x : Text) : (s.post x).taps = s.taps := rfl
@[simp] theorem Station.post_lockers (x : Text) : (s.post x).lockers = s.lockers := rfl
@[simp] theorem Station.post_claims (x : Text) : (s.post x).claims = s.claims := rfl
@[simp] theorem Station.post_directory (x : Text) : (s.post x).directory = s.directory := rfl
@[simp] theorem Station.post_tally (x : Text) : (s.post x).tally = s.tally := rfl
@[simp] theorem Station.post_cabins (x : Text) : (s.post x).cabins = s.cabins := rfl
@[simp] theorem Station.post_drive (x : Text) : (s.post x).drive = s.drive := rfl
@[simp] theorem Station.post_scan (x : Text) : (s.post x).scan = s.scan := rfl
@[simp] theorem Station.post_link (x : Text) : (s.post x).link = s.link := rfl
@[simp] theorem Station.post_orders (x : Text) : (s.post x).orders = s.orders := rfl
@[simp] theorem Station.post_panel_cursor (x : Text) : (s.post x).panel.cursor = s.panel.cursor := rfl
@[simp] theorem Station.post_panel_cursorTimer (x : Text) :
    (s.post x).panel.cursorTimer = s.panel.cursorTimer := rfl
@[simp] theorem Station.post_panel_message (x : Text) :
    (s.post x).panel.message = some { first := x, second := none } := rfl
@[simp] theorem Station.post_panel_holdEnd (x : Text) : (s.post x).panel.holdEnd = some (s.now + 8000) := rfl
@[simp] theorem Station.post_panel_secondTurn (x : Text) : (s.post x).panel.secondTurn = false := rfl
@[simp] theorem Station.post_panel_turnEnd (x : Text) : (s.post x).panel.turnEnd = none := rfl
@[simp] theorem Station.post_panel_scroll (x : Text) : (s.post x).panel.scroll = 0 := rfl
@[simp] theorem Station.post_panel_stepCount (x : Text) : (s.post x).panel.stepCount = 0 := rfl
@[simp] theorem Station.post_panel_frame (x : Text) : (s.post x).panel.frame = s.panel.frame := rfl
@[simp] theorem Station.post_panel_frameDue (x : Text) : (s.post x).panel.frameDue = s.panel.frameDue := rfl
@[simp] theorem Station.post_panel_cells (x : Text) : (s.post x).panel.cells = s.panel.cells := rfl
@[simp] theorem Station.post_panel_line (x : Text) : (s.post x).panel.line = Text.window x 0 := rfl
@[simp] theorem Station.post_restart (x : Text) : (s.post x).restart = s.restart := rfl

/-! ### placeCursor -/

@[simp] theorem Station.placeCursor_now (n : Nat) : (s.placeCursor n).now = s.now := rfl
@[simp] theorem Station.placeCursor_deliveries (n : Nat) : (s.placeCursor n).deliveries = s.deliveries := rfl
@[simp] theorem Station.placeCursor_taps (n : Nat) : (s.placeCursor n).taps = s.taps := rfl
@[simp] theorem Station.placeCursor_lockers (n : Nat) : (s.placeCursor n).lockers = s.lockers := rfl
@[simp] theorem Station.placeCursor_claims (n : Nat) : (s.placeCursor n).claims = s.claims := rfl
@[simp] theorem Station.placeCursor_directory (n : Nat) : (s.placeCursor n).directory = s.directory := rfl
@[simp] theorem Station.placeCursor_tally (n : Nat) : (s.placeCursor n).tally = s.tally := rfl
@[simp] theorem Station.placeCursor_cabins (n : Nat) : (s.placeCursor n).cabins = s.cabins := rfl
@[simp] theorem Station.placeCursor_drive (n : Nat) : (s.placeCursor n).drive = s.drive := rfl
@[simp] theorem Station.placeCursor_scan (n : Nat) : (s.placeCursor n).scan = s.scan := rfl
@[simp] theorem Station.placeCursor_link (n : Nat) : (s.placeCursor n).link = s.link := rfl
@[simp] theorem Station.placeCursor_orders (n : Nat) : (s.placeCursor n).orders = s.orders := rfl
@[simp] theorem Station.placeCursor_panel_cursor (n : Nat) : (s.placeCursor n).panel.cursor = some n := rfl
@[simp] theorem Station.placeCursor_panel_cursorTimer (n : Nat) :
    (s.placeCursor n).panel.cursorTimer = some (s.now + 15000) := rfl
@[simp] theorem Station.placeCursor_panel_message (n : Nat) :
    (s.placeCursor n).panel.message = s.panel.message := rfl
@[simp] theorem Station.placeCursor_panel_holdEnd (n : Nat) :
    (s.placeCursor n).panel.holdEnd = s.panel.holdEnd := rfl
@[simp] theorem Station.placeCursor_panel_secondTurn (n : Nat) :
    (s.placeCursor n).panel.secondTurn = s.panel.secondTurn := rfl
@[simp] theorem Station.placeCursor_panel_turnEnd (n : Nat) :
    (s.placeCursor n).panel.turnEnd = s.panel.turnEnd := rfl
@[simp] theorem Station.placeCursor_panel_scroll (n : Nat) :
    (s.placeCursor n).panel.scroll = s.panel.scroll := rfl
@[simp] theorem Station.placeCursor_panel_stepCount (n : Nat) :
    (s.placeCursor n).panel.stepCount = s.panel.stepCount := rfl
@[simp] theorem Station.placeCursor_panel_frame (n : Nat) :
    (s.placeCursor n).panel.frame = s.panel.frame := rfl
@[simp] theorem Station.placeCursor_panel_frameDue (n : Nat) :
    (s.placeCursor n).panel.frameDue = s.panel.frameDue := rfl
@[simp] theorem Station.placeCursor_panel_cells (n : Nat) :
    (s.placeCursor n).panel.cells = s.panel.cells := rfl
@[simp] theorem Station.placeCursor_panel_line (n : Nat) : (s.placeCursor n).panel.line = s.panel.line := rfl
@[simp] theorem Station.placeCursor_restart (n : Nat) : (s.placeCursor n).restart = s.restart := rfl

/-! ### removeCursor -/

@[simp] theorem Station.removeCursor_now : (s.removeCursor).now = s.now := rfl
@[simp] theorem Station.removeCursor_deliveries : (s.removeCursor).deliveries = s.deliveries := rfl
@[simp] theorem Station.removeCursor_taps : (s.removeCursor).taps = s.taps := rfl
@[simp] theorem Station.removeCursor_lockers : (s.removeCursor).lockers = s.lockers := rfl
@[simp] theorem Station.removeCursor_claims : (s.removeCursor).claims = s.claims := rfl
@[simp] theorem Station.removeCursor_directory : (s.removeCursor).directory = s.directory := rfl
@[simp] theorem Station.removeCursor_tally : (s.removeCursor).tally = s.tally := rfl
@[simp] theorem Station.removeCursor_cabins : (s.removeCursor).cabins = s.cabins := rfl
@[simp] theorem Station.removeCursor_drive : (s.removeCursor).drive = s.drive := rfl
@[simp] theorem Station.removeCursor_scan : (s.removeCursor).scan = s.scan := rfl
@[simp] theorem Station.removeCursor_link : (s.removeCursor).link = s.link := rfl
@[simp] theorem Station.removeCursor_orders : (s.removeCursor).orders = s.orders := rfl
@[simp] theorem Station.removeCursor_panel_cursor : (s.removeCursor).panel.cursor = none := rfl
@[simp] theorem Station.removeCursor_panel_cursorTimer : (s.removeCursor).panel.cursorTimer = none := rfl
@[simp] theorem Station.removeCursor_panel_message : (s.removeCursor).panel.message = s.panel.message := rfl
@[simp] theorem Station.removeCursor_panel_holdEnd : (s.removeCursor).panel.holdEnd = s.panel.holdEnd := rfl
@[simp] theorem Station.removeCursor_panel_secondTurn :
    (s.removeCursor).panel.secondTurn = s.panel.secondTurn := rfl
@[simp] theorem Station.removeCursor_panel_turnEnd : (s.removeCursor).panel.turnEnd = s.panel.turnEnd := rfl
@[simp] theorem Station.removeCursor_panel_scroll : (s.removeCursor).panel.scroll = s.panel.scroll := rfl
@[simp] theorem Station.removeCursor_panel_stepCount :
    (s.removeCursor).panel.stepCount = s.panel.stepCount := rfl
@[simp] theorem Station.removeCursor_panel_frame : (s.removeCursor).panel.frame = s.panel.frame := rfl
@[simp] theorem Station.removeCursor_panel_frameDue :
    (s.removeCursor).panel.frameDue = s.panel.frameDue := rfl
@[simp] theorem Station.removeCursor_panel_cells : (s.removeCursor).panel.cells = s.panel.cells := rfl
@[simp] theorem Station.removeCursor_panel_line : (s.removeCursor).panel.line = s.panel.line := rfl
@[simp] theorem Station.removeCursor_restart : (s.removeCursor).restart = s.restart := rfl

/-! ### reportFate -/

@[simp] theorem Station.reportFate_now (g : TxFrame) (fate : Fate) : (s.reportFate g fate).now = s.now := rfl
@[simp] theorem Station.reportFate_deliveries (g : TxFrame) (fate : Fate) :
    (s.reportFate g fate).deliveries = s.deliveries := rfl
@[simp] theorem Station.reportFate_taps (g : TxFrame) (fate : Fate) :
    (s.reportFate g fate).taps = s.taps := rfl
@[simp] theorem Station.reportFate_lockers (g : TxFrame) (fate : Fate) :
    (s.reportFate g fate).lockers = s.lockers := rfl
@[simp] theorem Station.reportFate_claims (g : TxFrame) (fate : Fate) :
    (s.reportFate g fate).claims = s.claims := rfl
@[simp] theorem Station.reportFate_directory (g : TxFrame) (fate : Fate) :
    (s.reportFate g fate).directory = s.directory := rfl
@[simp] theorem Station.reportFate_tally (g : TxFrame) (fate : Fate) :
    (s.reportFate g fate).tally = s.tally := rfl
@[simp] theorem Station.reportFate_cabins (g : TxFrame) (fate : Fate) :
    (s.reportFate g fate).cabins = s.cabins := rfl
@[simp] theorem Station.reportFate_drive (g : TxFrame) (fate : Fate) :
    (s.reportFate g fate).drive = s.drive := rfl
@[simp] theorem Station.reportFate_scan (g : TxFrame) (fate : Fate) :
    (s.reportFate g fate).scan = s.scan := rfl
@[simp] theorem Station.reportFate_link_queue (g : TxFrame) (fate : Fate) :
    (s.reportFate g fate).link.queue = s.link.queue := rfl
@[simp] theorem Station.reportFate_link_up (g : TxFrame) (fate : Fate) :
    (s.reportFate g fate).link.up = s.link.up := rfl
@[simp] theorem Station.reportFate_link_losses (g : TxFrame) (fate : Fate) :
    (s.reportFate g fate).link.losses = s.link.losses := rfl
@[simp] theorem Station.reportFate_link_dominantWatch (g : TxFrame) (fate : Fate) :
    (s.reportFate g fate).link.dominantWatch = s.link.dominantWatch := rfl
@[simp] theorem Station.reportFate_link_spoilSlot (g : TxFrame) (fate : Fate) :
    (s.reportFate g fate).link.spoilSlot = s.link.spoilSlot := rfl
@[simp] theorem Station.reportFate_link_recessiveSeen (g : TxFrame) (fate : Fate) :
    (s.reportFate g fate).link.recessiveSeen = s.link.recessiveSeen := rfl
@[simp] theorem Station.reportFate_link_spoilsDriven (g : TxFrame) (fate : Fate) :
    (s.reportFate g fate).link.spoilsDriven = s.link.spoilsDriven := rfl
@[simp] theorem Station.reportFate_link_nextFrame (g : TxFrame) (fate : Fate) :
    (s.reportFate g fate).link.nextFrame = s.link.nextFrame := rfl
@[simp] theorem Station.reportFate_link_reports (g : TxFrame) (fate : Fate) :
    (s.reportFate g fate).link.reports = s.link.reports ++ [{ frame := g, fate }] := rfl
@[simp] theorem Station.reportFate_orders (g : TxFrame) (fate : Fate) :
    (s.reportFate g fate).orders = s.orders := rfl
@[simp] theorem Station.reportFate_panel (g : TxFrame) (fate : Fate) :
    (s.reportFate g fate).panel = s.panel := rfl
@[simp] theorem Station.reportFate_restart (g : TxFrame) (fate : Fate) :
    (s.reportFate g fate).restart = s.restart := rfl

/-! ### clearWatch -/

@[simp] theorem Station.clearWatch_now : s.clearWatch.now = s.now := rfl
@[simp] theorem Station.clearWatch_deliveries : s.clearWatch.deliveries = s.deliveries := rfl
@[simp] theorem Station.clearWatch_taps : s.clearWatch.taps = s.taps := rfl
@[simp] theorem Station.clearWatch_lockers : s.clearWatch.lockers = s.lockers := rfl
@[simp] theorem Station.clearWatch_claims : s.clearWatch.claims = s.claims := rfl
@[simp] theorem Station.clearWatch_directory : s.clearWatch.directory = s.directory := rfl
@[simp] theorem Station.clearWatch_tally : s.clearWatch.tally = s.tally := rfl
@[simp] theorem Station.clearWatch_cabins : s.clearWatch.cabins = s.cabins := rfl
@[simp] theorem Station.clearWatch_drive : s.clearWatch.drive = s.drive := rfl
@[simp] theorem Station.clearWatch_scan : s.clearWatch.scan = s.scan := rfl
@[simp] theorem Station.clearWatch_orders : s.clearWatch.orders = s.orders := rfl
@[simp] theorem Station.clearWatch_panel : s.clearWatch.panel = s.panel := rfl
@[simp] theorem Station.clearWatch_restart : s.clearWatch.restart = s.restart := rfl
@[simp] theorem Station.clearWatch_link_queue : s.clearWatch.link.queue = s.link.queue := rfl
@[simp] theorem Station.clearWatch_link_up : s.clearWatch.link.up = s.link.up := rfl
@[simp] theorem Station.clearWatch_link_losses : s.clearWatch.link.losses = s.link.losses := rfl
@[simp] theorem Station.clearWatch_link_recessiveSeen : s.clearWatch.link.recessiveSeen = s.link.recessiveSeen := rfl
@[simp] theorem Station.clearWatch_link_framesLost : s.clearWatch.link.framesLost = s.link.framesLost := rfl
@[simp] theorem Station.clearWatch_link_spoilsDriven : s.clearWatch.link.spoilsDriven = s.link.spoilsDriven := rfl
@[simp] theorem Station.clearWatch_link_nextFrame : s.clearWatch.link.nextFrame = s.link.nextFrame := rfl
@[simp] theorem Station.clearWatch_link_reports : s.clearWatch.link.reports = s.link.reports := rfl
@[simp] theorem Station.clearWatch_link_spoilSlot : s.clearWatch.link.spoilSlot = .recessive := rfl
@[simp] theorem Station.clearWatch_link_dominantWatch : s.clearWatch.link.dominantWatch = 0 := rfl

/-- The statements write the line heard as an update. -/
theorem Station.clearWatch_eq : s.clearWatch = s.heardLine := rfl

/-! ### withdrawFrame -/

@[simp] theorem Station.withdrawFrame_now (id : Nat) : (s.withdrawFrame id).now = s.now := rfl
@[simp] theorem Station.withdrawFrame_deliveries (id : Nat) :
    (s.withdrawFrame id).deliveries = s.deliveries := rfl
@[simp] theorem Station.withdrawFrame_taps (id : Nat) : (s.withdrawFrame id).taps = s.taps := rfl
@[simp] theorem Station.withdrawFrame_lockers (id : Nat) : (s.withdrawFrame id).lockers = s.lockers := rfl
@[simp] theorem Station.withdrawFrame_claims (id : Nat) : (s.withdrawFrame id).claims = s.claims := rfl
@[simp] theorem Station.withdrawFrame_directory (id : Nat) :
    (s.withdrawFrame id).directory = s.directory := rfl
@[simp] theorem Station.withdrawFrame_tally (id : Nat) : (s.withdrawFrame id).tally = s.tally := rfl
@[simp] theorem Station.withdrawFrame_cabins (id : Nat) : (s.withdrawFrame id).cabins = s.cabins := rfl
@[simp] theorem Station.withdrawFrame_drive (id : Nat) : (s.withdrawFrame id).drive = s.drive := rfl
@[simp] theorem Station.withdrawFrame_scan (id : Nat) : (s.withdrawFrame id).scan = s.scan := rfl
@[simp] theorem Station.withdrawFrame_link_up (id : Nat) : (s.withdrawFrame id).link.up = s.link.up := rfl
@[simp] theorem Station.withdrawFrame_link_losses (id : Nat) :
    (s.withdrawFrame id).link.losses = s.link.losses := rfl
@[simp] theorem Station.withdrawFrame_link_dominantWatch (id : Nat) :
    (s.withdrawFrame id).link.dominantWatch = s.link.dominantWatch := rfl
@[simp] theorem Station.withdrawFrame_link_spoilSlot (id : Nat) :
    (s.withdrawFrame id).link.spoilSlot = s.link.spoilSlot := rfl
@[simp] theorem Station.withdrawFrame_link_recessiveSeen (id : Nat) :
    (s.withdrawFrame id).link.recessiveSeen = s.link.recessiveSeen := rfl
@[simp] theorem Station.withdrawFrame_link_framesLost (id : Nat) :
    (s.withdrawFrame id).link.framesLost = s.link.framesLost := rfl
@[simp] theorem Station.withdrawFrame_link_spoilsDriven (id : Nat) :
    (s.withdrawFrame id).link.spoilsDriven = s.link.spoilsDriven := rfl
@[simp] theorem Station.withdrawFrame_link_nextFrame (id : Nat) :
    (s.withdrawFrame id).link.nextFrame = s.link.nextFrame := rfl
@[simp] theorem Station.withdrawFrame_link_reports (id : Nat) :
    (s.withdrawFrame id).link.reports = s.link.reports := rfl
@[simp] theorem Station.withdrawFrame_orders (id : Nat) : (s.withdrawFrame id).orders = s.orders := rfl
@[simp] theorem Station.withdrawFrame_panel (id : Nat) : (s.withdrawFrame id).panel = s.panel := rfl
@[simp] theorem Station.withdrawFrame_restart (id : Nat) : (s.withdrawFrame id).restart = s.restart := rfl

/-! ### waitAgain -/

@[simp] theorem Station.waitAgain_now (id k : Nat) : (s.waitAgain id k).now = s.now := rfl
@[simp] theorem Station.waitAgain_deliveries (id k : Nat) :
    (s.waitAgain id k).deliveries = s.deliveries := rfl
@[simp] theorem Station.waitAgain_taps (id k : Nat) : (s.waitAgain id k).taps = s.taps := rfl
@[simp] theorem Station.waitAgain_lockers (id k : Nat) : (s.waitAgain id k).lockers = s.lockers := rfl
@[simp] theorem Station.waitAgain_claims (id k : Nat) : (s.waitAgain id k).claims = s.claims := rfl
@[simp] theorem Station.waitAgain_directory (id k : Nat) : (s.waitAgain id k).directory = s.directory := rfl
@[simp] theorem Station.waitAgain_tally (id k : Nat) : (s.waitAgain id k).tally = s.tally := rfl
@[simp] theorem Station.waitAgain_cabins (id k : Nat) : (s.waitAgain id k).cabins = s.cabins := rfl
@[simp] theorem Station.waitAgain_drive (id k : Nat) : (s.waitAgain id k).drive = s.drive := rfl
@[simp] theorem Station.waitAgain_scan (id k : Nat) : (s.waitAgain id k).scan = s.scan := rfl
@[simp] theorem Station.waitAgain_link_up (id k : Nat) : (s.waitAgain id k).link.up = s.link.up := rfl
@[simp] theorem Station.waitAgain_link_losses (id k : Nat) :
    (s.waitAgain id k).link.losses = s.link.losses := rfl
@[simp] theorem Station.waitAgain_link_dominantWatch (id k : Nat) :
    (s.waitAgain id k).link.dominantWatch = s.link.dominantWatch := rfl
@[simp] theorem Station.waitAgain_link_spoilSlot (id k : Nat) :
    (s.waitAgain id k).link.spoilSlot = s.link.spoilSlot := rfl
@[simp] theorem Station.waitAgain_link_recessiveSeen (id k : Nat) :
    (s.waitAgain id k).link.recessiveSeen = s.link.recessiveSeen := rfl
@[simp] theorem Station.waitAgain_link_framesLost (id k : Nat) :
    (s.waitAgain id k).link.framesLost = s.link.framesLost := rfl
@[simp] theorem Station.waitAgain_link_spoilsDriven (id k : Nat) :
    (s.waitAgain id k).link.spoilsDriven = s.link.spoilsDriven := rfl
@[simp] theorem Station.waitAgain_link_nextFrame (id k : Nat) :
    (s.waitAgain id k).link.nextFrame = s.link.nextFrame := rfl
@[simp] theorem Station.waitAgain_link_reports (id k : Nat) :
    (s.waitAgain id k).link.reports = s.link.reports := rfl
@[simp] theorem Station.waitAgain_orders (id k : Nat) : (s.waitAgain id k).orders = s.orders := rfl
@[simp] theorem Station.waitAgain_panel (id k : Nat) : (s.waitAgain id k).panel = s.panel := rfl
@[simp] theorem Station.waitAgain_restart (id k : Nat) : (s.waitAgain id k).restart = s.restart := rfl

/-! ### dropFrame -/

@[simp] theorem Station.dropFrame_now (id : Nat) : (s.dropFrame id).now = s.now := rfl
@[simp] theorem Station.dropFrame_deliveries (id : Nat) : (s.dropFrame id).deliveries = s.deliveries := rfl
@[simp] theorem Station.dropFrame_taps (id : Nat) : (s.dropFrame id).taps = s.taps := rfl
@[simp] theorem Station.dropFrame_lockers (id : Nat) : (s.dropFrame id).lockers = s.lockers := rfl
@[simp] theorem Station.dropFrame_claims (id : Nat) : (s.dropFrame id).claims = s.claims := rfl
@[simp] theorem Station.dropFrame_directory (id : Nat) : (s.dropFrame id).directory = s.directory := rfl
@[simp] theorem Station.dropFrame_tally (id : Nat) : (s.dropFrame id).tally = s.tally := rfl
@[simp] theorem Station.dropFrame_cabins (id : Nat) : (s.dropFrame id).cabins = s.cabins := rfl
@[simp] theorem Station.dropFrame_drive (id : Nat) : (s.dropFrame id).drive = s.drive := rfl
@[simp] theorem Station.dropFrame_scan (id : Nat) : (s.dropFrame id).scan = s.scan := rfl
@[simp] theorem Station.dropFrame_link_queue (id : Nat) :
    (s.dropFrame id).link.queue = removeFrame id s.link.queue := rfl
@[simp] theorem Station.dropFrame_link_up (id : Nat) : (s.dropFrame id).link.up = s.link.up := rfl
@[simp] theorem Station.dropFrame_link_losses (id : Nat) : (s.dropFrame id).link.losses = s.link.losses := rfl
@[simp] theorem Station.dropFrame_link_dominantWatch (id : Nat) :
    (s.dropFrame id).link.dominantWatch = s.link.dominantWatch := rfl
@[simp] theorem Station.dropFrame_link_spoilSlot (id : Nat) :
    (s.dropFrame id).link.spoilSlot = s.link.spoilSlot := rfl
@[simp] theorem Station.dropFrame_link_recessiveSeen (id : Nat) :
    (s.dropFrame id).link.recessiveSeen = s.link.recessiveSeen := rfl
@[simp] theorem Station.dropFrame_link_framesLost (id : Nat) :
    (s.dropFrame id).link.framesLost = s.link.framesLost := rfl
@[simp] theorem Station.dropFrame_link_spoilsDriven (id : Nat) :
    (s.dropFrame id).link.spoilsDriven = s.link.spoilsDriven := rfl
@[simp] theorem Station.dropFrame_link_nextFrame (id : Nat) :
    (s.dropFrame id).link.nextFrame = s.link.nextFrame := rfl
@[simp] theorem Station.dropFrame_link_reports (id : Nat) :
    (s.dropFrame id).link.reports = s.link.reports := rfl
@[simp] theorem Station.dropFrame_orders (id : Nat) : (s.dropFrame id).orders = s.orders := rfl
@[simp] theorem Station.dropFrame_panel (id : Nat) : (s.dropFrame id).panel = s.panel := rfl
@[simp] theorem Station.dropFrame_restart (id : Nat) : (s.dropFrame id).restart = s.restart := rfl

/-! ### learn -/

@[simp] theorem Station.learn_now (p : PartyKey) (x l : Nat) (b : BitVec 24) :
    (s.learn p x l b).now = s.now := rfl
@[simp] theorem Station.learn_deliveries (p : PartyKey) (x l : Nat) (b : BitVec 24) :
    (s.learn p x l b).deliveries = s.deliveries := rfl
@[simp] theorem Station.learn_taps (p : PartyKey) (x l : Nat) (b : BitVec 24) :
    (s.learn p x l b).taps = s.taps := rfl
@[simp] theorem Station.learn_lockers (p : PartyKey) (x l : Nat) (b : BitVec 24) :
    (s.learn p x l b).lockers = s.lockers := rfl
@[simp] theorem Station.learn_claims (p : PartyKey) (x l : Nat) (b : BitVec 24) :
    (s.learn p x l b).claims = s.claims := rfl
@[simp] theorem Station.learn_directory_redirects (p : PartyKey) (x l : Nat) (b : BitVec 24) :
    (s.learn p x l b).directory.redirects = s.directory.redirects := rfl
@[simp] theorem Station.learn_directory_recounts (p : PartyKey) (x l : Nat) (b : BitVec 24) :
    (s.learn p x l b).directory.recounts = s.directory.recounts := rfl
@[simp] theorem Station.learn_tally (p : PartyKey) (x l : Nat) (b : BitVec 24) :
    (s.learn p x l b).tally = s.tally := rfl
@[simp] theorem Station.learn_cabins (p : PartyKey) (x l : Nat) (b : BitVec 24) :
    (s.learn p x l b).cabins = s.cabins := rfl
@[simp] theorem Station.learn_drive (p : PartyKey) (x l : Nat) (b : BitVec 24) :
    (s.learn p x l b).drive = s.drive := rfl
@[simp] theorem Station.learn_scan (p : PartyKey) (x l : Nat) (b : BitVec 24) :
    (s.learn p x l b).scan = s.scan := rfl
@[simp] theorem Station.learn_link (p : PartyKey) (x l : Nat) (b : BitVec 24) :
    (s.learn p x l b).link = s.link := rfl
@[simp] theorem Station.learn_orders (p : PartyKey) (x l : Nat) (b : BitVec 24) :
    (s.learn p x l b).orders = s.orders := rfl
@[simp] theorem Station.learn_panel (p : PartyKey) (x l : Nat) (b : BitVec 24) :
    (s.learn p x l b).panel = s.panel := rfl
@[simp] theorem Station.learn_restart (p : PartyKey) (x l : Nat) (b : BitVec 24) :
    (s.learn p x l b).restart = s.restart := rfl

/-! ### markDoubtful -/

@[simp] theorem Station.markDoubtful_now (p : PartyKey) : (s.markDoubtful p).now = s.now := rfl
@[simp] theorem Station.markDoubtful_deliveries (p : PartyKey) :
    (s.markDoubtful p).deliveries = s.deliveries := rfl
@[simp] theorem Station.markDoubtful_taps (p : PartyKey) : (s.markDoubtful p).taps = s.taps := rfl
@[simp] theorem Station.markDoubtful_lockers (p : PartyKey) : (s.markDoubtful p).lockers = s.lockers := rfl
@[simp] theorem Station.markDoubtful_claims (p : PartyKey) : (s.markDoubtful p).claims = s.claims := rfl
@[simp] theorem Station.markDoubtful_directory_redirects (p : PartyKey) :
    (s.markDoubtful p).directory.redirects = s.directory.redirects := rfl
@[simp] theorem Station.markDoubtful_directory_recounts (p : PartyKey) :
    (s.markDoubtful p).directory.recounts = s.directory.recounts := rfl
@[simp] theorem Station.markDoubtful_tally (p : PartyKey) : (s.markDoubtful p).tally = s.tally := rfl
@[simp] theorem Station.markDoubtful_cabins (p : PartyKey) : (s.markDoubtful p).cabins = s.cabins := rfl
@[simp] theorem Station.markDoubtful_drive (p : PartyKey) : (s.markDoubtful p).drive = s.drive := rfl
@[simp] theorem Station.markDoubtful_scan (p : PartyKey) : (s.markDoubtful p).scan = s.scan := rfl
@[simp] theorem Station.markDoubtful_link (p : PartyKey) : (s.markDoubtful p).link = s.link := rfl
@[simp] theorem Station.markDoubtful_orders (p : PartyKey) : (s.markDoubtful p).orders = s.orders := rfl
@[simp] theorem Station.markDoubtful_panel (p : PartyKey) : (s.markDoubtful p).panel = s.panel := rfl
@[simp] theorem Station.markDoubtful_restart (p : PartyKey) : (s.markDoubtful p).restart = s.restart := rfl

/-! ### deleteDoubtful -/

@[simp] theorem Station.deleteDoubtful_now (p : PartyKey) : (s.deleteDoubtful p).now = s.now := rfl
@[simp] theorem Station.deleteDoubtful_deliveries (p : PartyKey) :
    (s.deleteDoubtful p).deliveries = s.deliveries := rfl
@[simp] theorem Station.deleteDoubtful_taps (p : PartyKey) : (s.deleteDoubtful p).taps = s.taps := rfl
@[simp] theorem Station.deleteDoubtful_lockers (p : PartyKey) :
    (s.deleteDoubtful p).lockers = s.lockers := rfl
@[simp] theorem Station.deleteDoubtful_claims (p : PartyKey) : (s.deleteDoubtful p).claims = s.claims := rfl
@[simp] theorem Station.deleteDoubtful_directory_redirects (p : PartyKey) :
    (s.deleteDoubtful p).directory.redirects = s.directory.redirects := rfl
@[simp] theorem Station.deleteDoubtful_directory_recounts (p : PartyKey) :
    (s.deleteDoubtful p).directory.recounts = s.directory.recounts := rfl
@[simp] theorem Station.deleteDoubtful_tally (p : PartyKey) : (s.deleteDoubtful p).tally = s.tally := rfl
@[simp] theorem Station.deleteDoubtful_cabins (p : PartyKey) : (s.deleteDoubtful p).cabins = s.cabins := rfl
@[simp] theorem Station.deleteDoubtful_drive (p : PartyKey) : (s.deleteDoubtful p).drive = s.drive := rfl
@[simp] theorem Station.deleteDoubtful_scan (p : PartyKey) : (s.deleteDoubtful p).scan = s.scan := rfl
@[simp] theorem Station.deleteDoubtful_link (p : PartyKey) : (s.deleteDoubtful p).link = s.link := rfl
@[simp] theorem Station.deleteDoubtful_orders (p : PartyKey) : (s.deleteDoubtful p).orders = s.orders := rfl
@[simp] theorem Station.deleteDoubtful_panel (p : PartyKey) : (s.deleteDoubtful p).panel = s.panel := rfl
@[simp] theorem Station.deleteDoubtful_restart (p : PartyKey) :
    (s.deleteDoubtful p).restart = s.restart := rfl

/-! ### removeRedirect -/

@[simp] theorem Station.removeRedirect_now (b : BitVec 24) : (s.removeRedirect b).now = s.now := rfl
@[simp] theorem Station.removeRedirect_deliveries (b : BitVec 24) :
    (s.removeRedirect b).deliveries = s.deliveries := rfl
@[simp] theorem Station.removeRedirect_taps (b : BitVec 24) : (s.removeRedirect b).taps = s.taps := rfl
@[simp] theorem Station.removeRedirect_lockers (b : BitVec 24) :
    (s.removeRedirect b).lockers = s.lockers := rfl
@[simp] theorem Station.removeRedirect_claims (b : BitVec 24) : (s.removeRedirect b).claims = s.claims := rfl
@[simp] theorem Station.removeRedirect_directory_cache (b : BitVec 24) :
    (s.removeRedirect b).directory.cache = s.directory.cache := rfl
@[simp] theorem Station.removeRedirect_directory_recounts (b : BitVec 24) :
    (s.removeRedirect b).directory.recounts = s.directory.recounts := rfl
@[simp] theorem Station.removeRedirect_tally (b : BitVec 24) : (s.removeRedirect b).tally = s.tally := rfl
@[simp] theorem Station.removeRedirect_cabins (b : BitVec 24) : (s.removeRedirect b).cabins = s.cabins := rfl
@[simp] theorem Station.removeRedirect_drive (b : BitVec 24) : (s.removeRedirect b).drive = s.drive := rfl
@[simp] theorem Station.removeRedirect_scan (b : BitVec 24) : (s.removeRedirect b).scan = s.scan := rfl
@[simp] theorem Station.removeRedirect_link (b : BitVec 24) : (s.removeRedirect b).link = s.link := rfl
@[simp] theorem Station.removeRedirect_orders (b : BitVec 24) : (s.removeRedirect b).orders = s.orders := rfl
@[simp] theorem Station.removeRedirect_panel (b : BitVec 24) : (s.removeRedirect b).panel = s.panel := rfl
@[simp] theorem Station.removeRedirect_restart (b : BitVec 24) :
    (s.removeRedirect b).restart = s.restart := rfl

/-! ### markRecount -/

@[simp] theorem Station.markRecount_now (x : Nat) : (s.markRecount x).now = s.now := rfl
@[simp] theorem Station.markRecount_deliveries (x : Nat) : (s.markRecount x).deliveries = s.deliveries := rfl
@[simp] theorem Station.markRecount_taps (x : Nat) : (s.markRecount x).taps = s.taps := rfl
@[simp] theorem Station.markRecount_lockers (x : Nat) : (s.markRecount x).lockers = s.lockers := rfl
@[simp] theorem Station.markRecount_claims (x : Nat) : (s.markRecount x).claims = s.claims := rfl
@[simp] theorem Station.markRecount_directory_redirects (x : Nat) :
    (s.markRecount x).directory.redirects = s.directory.redirects := rfl
@[simp] theorem Station.markRecount_directory_recounts (x : Nat) :
    (s.markRecount x).directory.recounts = s.directory.recounts := rfl
@[simp] theorem Station.markRecount_tally (x : Nat) : (s.markRecount x).tally = s.tally := rfl
@[simp] theorem Station.markRecount_cabins (x : Nat) : (s.markRecount x).cabins = s.cabins := rfl
@[simp] theorem Station.markRecount_drive (x : Nat) : (s.markRecount x).drive = s.drive := rfl
@[simp] theorem Station.markRecount_scan (x : Nat) : (s.markRecount x).scan = s.scan := rfl
@[simp] theorem Station.markRecount_link (x : Nat) : (s.markRecount x).link = s.link := rfl
@[simp] theorem Station.markRecount_orders (x : Nat) : (s.markRecount x).orders = s.orders := rfl
@[simp] theorem Station.markRecount_panel (x : Nat) : (s.markRecount x).panel = s.panel := rfl
@[simp] theorem Station.markRecount_restart (x : Nat) : (s.markRecount x).restart = s.restart := rfl

/-! ### clearRecount -/

@[simp] theorem Station.clearRecount_now (p : PartyKey) : (s.clearRecount p).now = s.now := rfl
@[simp] theorem Station.clearRecount_deliveries (p : PartyKey) :
    (s.clearRecount p).deliveries = s.deliveries := rfl
@[simp] theorem Station.clearRecount_taps (p : PartyKey) : (s.clearRecount p).taps = s.taps := rfl
@[simp] theorem Station.clearRecount_lockers (p : PartyKey) : (s.clearRecount p).lockers = s.lockers := rfl
@[simp] theorem Station.clearRecount_claims (p : PartyKey) : (s.clearRecount p).claims = s.claims := rfl
@[simp] theorem Station.clearRecount_directory_redirects (p : PartyKey) :
    (s.clearRecount p).directory.redirects = s.directory.redirects := rfl
@[simp] theorem Station.clearRecount_directory_recounts (p : PartyKey) :
    (s.clearRecount p).directory.recounts = s.directory.recounts := rfl
@[simp] theorem Station.clearRecount_tally (p : PartyKey) : (s.clearRecount p).tally = s.tally := rfl
@[simp] theorem Station.clearRecount_cabins (p : PartyKey) : (s.clearRecount p).cabins = s.cabins := rfl
@[simp] theorem Station.clearRecount_drive (p : PartyKey) : (s.clearRecount p).drive = s.drive := rfl
@[simp] theorem Station.clearRecount_scan (p : PartyKey) : (s.clearRecount p).scan = s.scan := rfl
@[simp] theorem Station.clearRecount_link (p : PartyKey) : (s.clearRecount p).link = s.link := rfl
@[simp] theorem Station.clearRecount_orders (p : PartyKey) : (s.clearRecount p).orders = s.orders := rfl
@[simp] theorem Station.clearRecount_panel (p : PartyKey) : (s.clearRecount p).panel = s.panel := rfl
@[simp] theorem Station.clearRecount_restart (p : PartyKey) : (s.clearRecount p).restart = s.restart := rfl

/-! ### changeRequest -/

@[simp] theorem Station.changeRequest_now (o : Nat) (f : DriveRequest → DriveRequest) :
    (s.changeRequest o f).now = s.now := rfl
@[simp] theorem Station.changeRequest_deliveries (o : Nat) (f : DriveRequest → DriveRequest) :
    (s.changeRequest o f).deliveries = s.deliveries := rfl
@[simp] theorem Station.changeRequest_taps (o : Nat) (f : DriveRequest → DriveRequest) :
    (s.changeRequest o f).taps = s.taps := rfl
@[simp] theorem Station.changeRequest_lockers (o : Nat) (f : DriveRequest → DriveRequest) :
    (s.changeRequest o f).lockers = s.lockers := rfl
@[simp] theorem Station.changeRequest_claims (o : Nat) (f : DriveRequest → DriveRequest) :
    (s.changeRequest o f).claims = s.claims := rfl
@[simp] theorem Station.changeRequest_directory (o : Nat) (f : DriveRequest → DriveRequest) :
    (s.changeRequest o f).directory = s.directory := rfl
@[simp] theorem Station.changeRequest_tally (o : Nat) (f : DriveRequest → DriveRequest) :
    (s.changeRequest o f).tally = s.tally := rfl
@[simp] theorem Station.changeRequest_cabins (o : Nat) (f : DriveRequest → DriveRequest) :
    (s.changeRequest o f).cabins = s.cabins := rfl
@[simp] theorem Station.changeRequest_drive_queue (o : Nat) (f : DriveRequest → DriveRequest) :
    (s.changeRequest o f).drive.queue = updateWhere (fun r => decide (r.output = o)) f s.drive.queue := rfl
@[simp] theorem Station.changeRequest_drive_slots (o : Nat) (f : DriveRequest → DriveRequest) :
    (s.changeRequest o f).drive.slots = s.drive.slots := rfl
@[simp] theorem Station.changeRequest_drive_latches (o : Nat) (f : DriveRequest → DriveRequest) :
    (s.changeRequest o f).drive.latches = s.drive.latches := rfl
@[simp] theorem Station.changeRequest_drive_inputs (o : Nat) (f : DriveRequest → DriveRequest) :
    (s.changeRequest o f).drive.inputs = s.drive.inputs := rfl
@[simp] theorem Station.changeRequest_drive_jams (o : Nat) (f : DriveRequest → DriveRequest) :
    (s.changeRequest o f).drive.jams = s.drive.jams := rfl
@[simp] theorem Station.changeRequest_drive_late (o : Nat) (f : DriveRequest → DriveRequest) :
    (s.changeRequest o f).drive.late = s.drive.late := rfl
@[simp] theorem Station.changeRequest_scan (o : Nat) (f : DriveRequest → DriveRequest) :
    (s.changeRequest o f).scan = s.scan := rfl
@[simp] theorem Station.changeRequest_link (o : Nat) (f : DriveRequest → DriveRequest) :
    (s.changeRequest o f).link = s.link := rfl
@[simp] theorem Station.changeRequest_orders (o : Nat) (f : DriveRequest → DriveRequest) :
    (s.changeRequest o f).orders = s.orders := rfl
@[simp] theorem Station.changeRequest_panel (o : Nat) (f : DriveRequest → DriveRequest) :
    (s.changeRequest o f).panel = s.panel := rfl
@[simp] theorem Station.changeRequest_restart (o : Nat) (f : DriveRequest → DriveRequest) :
    (s.changeRequest o f).restart = s.restart := rfl

/-! ### removeRequest -/

@[simp] theorem Station.removeRequest_now (o : Nat) : (s.removeRequest o).now = s.now := rfl
@[simp] theorem Station.removeRequest_deliveries (o : Nat) :
    (s.removeRequest o).deliveries = s.deliveries := rfl
@[simp] theorem Station.removeRequest_taps (o : Nat) : (s.removeRequest o).taps = s.taps := rfl
@[simp] theorem Station.removeRequest_lockers (o : Nat) : (s.removeRequest o).lockers = s.lockers := rfl
@[simp] theorem Station.removeRequest_claims (o : Nat) : (s.removeRequest o).claims = s.claims := rfl
@[simp] theorem Station.removeRequest_directory (o : Nat) : (s.removeRequest o).directory = s.directory := rfl
@[simp] theorem Station.removeRequest_tally (o : Nat) : (s.removeRequest o).tally = s.tally := rfl
@[simp] theorem Station.removeRequest_cabins (o : Nat) : (s.removeRequest o).cabins = s.cabins := rfl
@[simp] theorem Station.removeRequest_drive_queue (o : Nat) :
    (s.removeRequest o).drive.queue = s.drive.queue.filter fun r => decide (r.output ≠ o) := rfl
@[simp] theorem Station.removeRequest_drive_slots (o : Nat) :
    (s.removeRequest o).drive.slots = s.drive.slots := rfl
@[simp] theorem Station.removeRequest_drive_latches (o : Nat) :
    (s.removeRequest o).drive.latches = s.drive.latches := rfl
@[simp] theorem Station.removeRequest_drive_inputs (o : Nat) :
    (s.removeRequest o).drive.inputs = s.drive.inputs := rfl
@[simp] theorem Station.removeRequest_drive_jams (o : Nat) :
    (s.removeRequest o).drive.jams = s.drive.jams := rfl
@[simp] theorem Station.removeRequest_drive_late (o : Nat) :
    (s.removeRequest o).drive.late = s.drive.late := rfl
@[simp] theorem Station.removeRequest_scan (o : Nat) : (s.removeRequest o).scan = s.scan := rfl
@[simp] theorem Station.removeRequest_link (o : Nat) : (s.removeRequest o).link = s.link := rfl
@[simp] theorem Station.removeRequest_orders (o : Nat) : (s.removeRequest o).orders = s.orders := rfl
@[simp] theorem Station.removeRequest_panel (o : Nat) : (s.removeRequest o).panel = s.panel := rfl
@[simp] theorem Station.removeRequest_restart (o : Nat) : (s.removeRequest o).restart = s.restart := rfl

/-! ### startPull -/

@[simp] theorem Station.startPull_now (r : DriveRequest) (k : Nat) : (s.startPull r k).now = s.now := rfl
@[simp] theorem Station.startPull_deliveries (r : DriveRequest) (k : Nat) :
    (s.startPull r k).deliveries = s.deliveries := rfl
@[simp] theorem Station.startPull_taps (r : DriveRequest) (k : Nat) : (s.startPull r k).taps = s.taps := rfl
@[simp] theorem Station.startPull_lockers (r : DriveRequest) (k : Nat) :
    (s.startPull r k).lockers = s.lockers := rfl
@[simp] theorem Station.startPull_claims (r : DriveRequest) (k : Nat) :
    (s.startPull r k).claims = s.claims := rfl
@[simp] theorem Station.startPull_directory (r : DriveRequest) (k : Nat) :
    (s.startPull r k).directory = s.directory := rfl
@[simp] theorem Station.startPull_tally (r : DriveRequest) (k : Nat) :
    (s.startPull r k).tally = s.tally := rfl
@[simp] theorem Station.startPull_cabins (r : DriveRequest) (k : Nat) :
    (s.startPull r k).cabins = s.cabins := rfl
@[simp] theorem Station.startPull_drive_slots (r : DriveRequest) (k : Nat) :
    (s.startPull r k).drive.slots = s.drive.slots := rfl
@[simp] theorem Station.startPull_drive_latches (r : DriveRequest) (k : Nat) :
    (s.startPull r k).drive.latches = s.drive.latches := rfl
@[simp] theorem Station.startPull_drive_inputs (r : DriveRequest) (k : Nat) :
    (s.startPull r k).drive.inputs = s.drive.inputs := rfl
@[simp] theorem Station.startPull_drive_jams (r : DriveRequest) (k : Nat) :
    (s.startPull r k).drive.jams = s.drive.jams := rfl
@[simp] theorem Station.startPull_drive_late (r : DriveRequest) (k : Nat) :
    (s.startPull r k).drive.late = s.drive.late := rfl
@[simp] theorem Station.startPull_scan (r : DriveRequest) (k : Nat) : (s.startPull r k).scan = s.scan := rfl
@[simp] theorem Station.startPull_link (r : DriveRequest) (k : Nat) : (s.startPull r k).link = s.link := rfl
@[simp] theorem Station.startPull_orders (r : DriveRequest) (k : Nat) :
    (s.startPull r k).orders = s.orders := rfl
@[simp] theorem Station.startPull_panel (r : DriveRequest) (k : Nat) :
    (s.startPull r k).panel = s.panel := rfl
@[simp] theorem Station.startPull_restart (r : DriveRequest) (k : Nat) :
    (s.startPull r k).restart = s.restart := rfl

/-! ### restSlot -/

@[simp] theorem Station.restSlot_now (k : Nat) : (s.restSlot k).now = s.now := rfl
@[simp] theorem Station.restSlot_deliveries (k : Nat) : (s.restSlot k).deliveries = s.deliveries := rfl
@[simp] theorem Station.restSlot_taps (k : Nat) : (s.restSlot k).taps = s.taps := rfl
@[simp] theorem Station.restSlot_lockers (k : Nat) : (s.restSlot k).lockers = s.lockers := rfl
@[simp] theorem Station.restSlot_claims (k : Nat) : (s.restSlot k).claims = s.claims := rfl
@[simp] theorem Station.restSlot_directory (k : Nat) : (s.restSlot k).directory = s.directory := rfl
@[simp] theorem Station.restSlot_tally (k : Nat) : (s.restSlot k).tally = s.tally := rfl
@[simp] theorem Station.restSlot_cabins (k : Nat) : (s.restSlot k).cabins = s.cabins := rfl
@[simp] theorem Station.restSlot_drive_queue (k : Nat) : (s.restSlot k).drive.queue = s.drive.queue := rfl
@[simp] theorem Station.restSlot_drive_latches (k : Nat) :
    (s.restSlot k).drive.latches = s.drive.latches := rfl
@[simp] theorem Station.restSlot_drive_inputs (k : Nat) : (s.restSlot k).drive.inputs = s.drive.inputs := rfl
@[simp] theorem Station.restSlot_drive_jams (k : Nat) : (s.restSlot k).drive.jams = s.drive.jams := rfl
@[simp] theorem Station.restSlot_drive_late (k : Nat) : (s.restSlot k).drive.late = s.drive.late := rfl
@[simp] theorem Station.restSlot_scan (k : Nat) : (s.restSlot k).scan = s.scan := rfl
@[simp] theorem Station.restSlot_link (k : Nat) : (s.restSlot k).link = s.link := rfl
@[simp] theorem Station.restSlot_orders (k : Nat) : (s.restSlot k).orders = s.orders := rfl
@[simp] theorem Station.restSlot_panel (k : Nat) : (s.restSlot k).panel = s.panel := rfl
@[simp] theorem Station.restSlot_restart (k : Nat) : (s.restSlot k).restart = s.restart := rfl

/-! ### freeLocker -/

@[simp] theorem Station.freeLocker_now (n : Nat) : (s.freeLocker n).now = s.now := rfl
@[simp] theorem Station.freeLocker_deliveries (n : Nat) : (s.freeLocker n).deliveries = s.deliveries := rfl
@[simp] theorem Station.freeLocker_taps (n : Nat) : (s.freeLocker n).taps = s.taps := rfl
@[simp] theorem Station.freeLocker_lockers_holdings (n : Nat) :
    (s.freeLocker n).lockers.holdings = s.lockers.holdings := rfl
@[simp] theorem Station.freeLocker_lockers_minute (n : Nat) :
    (s.freeLocker n).lockers.minute = s.lockers.minute := rfl
@[simp] theorem Station.freeLocker_lockers_minuteDue (n : Nat) :
    (s.freeLocker n).lockers.minuteDue = s.lockers.minuteDue := rfl
@[simp] theorem Station.freeLocker_lockers_forcedDoors (n : Nat) :
    (s.freeLocker n).lockers.forcedDoors = s.lockers.forcedDoors := rfl
@[simp] theorem Station.freeLocker_lockers_doubles (n : Nat) :
    (s.freeLocker n).lockers.doubles = s.lockers.doubles := rfl
@[simp] theorem Station.freeLocker_claims (n : Nat) : (s.freeLocker n).claims = s.claims := rfl
@[simp] theorem Station.freeLocker_directory (n : Nat) : (s.freeLocker n).directory = s.directory := rfl
@[simp] theorem Station.freeLocker_tally (n : Nat) : (s.freeLocker n).tally = s.tally := rfl
@[simp] theorem Station.freeLocker_cabins (n : Nat) : (s.freeLocker n).cabins = s.cabins := rfl
@[simp] theorem Station.freeLocker_drive (n : Nat) : (s.freeLocker n).drive = s.drive := rfl
@[simp] theorem Station.freeLocker_scan (n : Nat) : (s.freeLocker n).scan = s.scan := rfl
@[simp] theorem Station.freeLocker_link (n : Nat) : (s.freeLocker n).link = s.link := rfl
@[simp] theorem Station.freeLocker_orders (n : Nat) : (s.freeLocker n).orders = s.orders := rfl
@[simp] theorem Station.freeLocker_panel (n : Nat) : (s.freeLocker n).panel = s.panel := rfl
@[simp] theorem Station.freeLocker_restart (n : Nat) : (s.freeLocker n).restart = s.restart := rfl

/-! ### lockLocker -/

@[simp] theorem Station.lockLocker_now (n : Nat) : (s.lockLocker n).now = s.now := rfl
@[simp] theorem Station.lockLocker_deliveries (n : Nat) : (s.lockLocker n).deliveries = s.deliveries := rfl
@[simp] theorem Station.lockLocker_taps (n : Nat) : (s.lockLocker n).taps = s.taps := rfl
@[simp] theorem Station.lockLocker_lockers_holdings (n : Nat) :
    (s.lockLocker n).lockers.holdings = s.lockers.holdings := rfl
@[simp] theorem Station.lockLocker_lockers_minute (n : Nat) :
    (s.lockLocker n).lockers.minute = s.lockers.minute := rfl
@[simp] theorem Station.lockLocker_lockers_minuteDue (n : Nat) :
    (s.lockLocker n).lockers.minuteDue = s.lockers.minuteDue := rfl
@[simp] theorem Station.lockLocker_lockers_forcedDoors (n : Nat) :
    (s.lockLocker n).lockers.forcedDoors = s.lockers.forcedDoors := rfl
@[simp] theorem Station.lockLocker_lockers_doubles (n : Nat) :
    (s.lockLocker n).lockers.doubles = s.lockers.doubles := rfl
@[simp] theorem Station.lockLocker_claims (n : Nat) : (s.lockLocker n).claims = s.claims := rfl
@[simp] theorem Station.lockLocker_directory (n : Nat) : (s.lockLocker n).directory = s.directory := rfl
@[simp] theorem Station.lockLocker_tally (n : Nat) : (s.lockLocker n).tally = s.tally := rfl
@[simp] theorem Station.lockLocker_cabins (n : Nat) : (s.lockLocker n).cabins = s.cabins := rfl
@[simp] theorem Station.lockLocker_drive (n : Nat) : (s.lockLocker n).drive = s.drive := rfl
@[simp] theorem Station.lockLocker_scan (n : Nat) : (s.lockLocker n).scan = s.scan := rfl
@[simp] theorem Station.lockLocker_link (n : Nat) : (s.lockLocker n).link = s.link := rfl
@[simp] theorem Station.lockLocker_orders (n : Nat) : (s.lockLocker n).orders = s.orders := rfl
@[simp] theorem Station.lockLocker_panel (n : Nat) : (s.lockLocker n).panel = s.panel := rfl
@[simp] theorem Station.lockLocker_restart (n : Nat) : (s.lockLocker n).restart = s.restart := rfl

/-! ### settleLocker -/

@[simp] theorem Station.settleLocker_now (n : Nat) (x : LockerState) : (s.settleLocker n x).now = s.now := rfl
@[simp] theorem Station.settleLocker_deliveries (n : Nat) (x : LockerState) :
    (s.settleLocker n x).deliveries = s.deliveries := rfl
@[simp] theorem Station.settleLocker_taps (n : Nat) (x : LockerState) :
    (s.settleLocker n x).taps = s.taps := rfl
@[simp] theorem Station.settleLocker_lockers_holdings (n : Nat) (x : LockerState) :
    (s.settleLocker n x).lockers.holdings = s.lockers.holdings := rfl
@[simp] theorem Station.settleLocker_lockers_minute (n : Nat) (x : LockerState) :
    (s.settleLocker n x).lockers.minute = s.lockers.minute := rfl
@[simp] theorem Station.settleLocker_lockers_minuteDue (n : Nat) (x : LockerState) :
    (s.settleLocker n x).lockers.minuteDue = s.lockers.minuteDue := rfl
@[simp] theorem Station.settleLocker_lockers_forcedDoors (n : Nat) (x : LockerState) :
    (s.settleLocker n x).lockers.forcedDoors = s.lockers.forcedDoors := rfl
@[simp] theorem Station.settleLocker_lockers_doubles (n : Nat) (x : LockerState) :
    (s.settleLocker n x).lockers.doubles = s.lockers.doubles := rfl
@[simp] theorem Station.settleLocker_claims (n : Nat) (x : LockerState) :
    (s.settleLocker n x).claims = s.claims := rfl
@[simp] theorem Station.settleLocker_directory (n : Nat) (x : LockerState) :
    (s.settleLocker n x).directory = s.directory := rfl
@[simp] theorem Station.settleLocker_tally (n : Nat) (x : LockerState) :
    (s.settleLocker n x).tally = s.tally := rfl
@[simp] theorem Station.settleLocker_cabins (n : Nat) (x : LockerState) :
    (s.settleLocker n x).cabins = s.cabins := rfl
@[simp] theorem Station.settleLocker_drive (n : Nat) (x : LockerState) :
    (s.settleLocker n x).drive = s.drive := rfl
@[simp] theorem Station.settleLocker_scan (n : Nat) (x : LockerState) :
    (s.settleLocker n x).scan = s.scan := rfl
@[simp] theorem Station.settleLocker_link (n : Nat) (x : LockerState) :
    (s.settleLocker n x).link = s.link := rfl
@[simp] theorem Station.settleLocker_orders (n : Nat) (x : LockerState) :
    (s.settleLocker n x).orders = s.orders := rfl
@[simp] theorem Station.settleLocker_panel (n : Nat) (x : LockerState) :
    (s.settleLocker n x).panel = s.panel := rfl
@[simp] theorem Station.settleLocker_restart (n : Nat) (x : LockerState) :
    (s.settleLocker n x).restart = s.restart := rfl

/-! ### countOpening -/

@[simp] theorem Station.countOpening_now (n : Nat) : (s.countOpening n).now = s.now := rfl
@[simp] theorem Station.countOpening_deliveries (n : Nat) :
    (s.countOpening n).deliveries = s.deliveries := rfl
@[simp] theorem Station.countOpening_taps (n : Nat) : (s.countOpening n).taps = s.taps := rfl
@[simp] theorem Station.countOpening_lockers_lockers (n : Nat) :
    (s.countOpening n).lockers.lockers = s.lockers.lockers := rfl
@[simp] theorem Station.countOpening_lockers_minute (n : Nat) :
    (s.countOpening n).lockers.minute = s.lockers.minute := rfl
@[simp] theorem Station.countOpening_lockers_minuteDue (n : Nat) :
    (s.countOpening n).lockers.minuteDue = s.lockers.minuteDue := rfl
@[simp] theorem Station.countOpening_lockers_forcedDoors (n : Nat) :
    (s.countOpening n).lockers.forcedDoors = s.lockers.forcedDoors := rfl
@[simp] theorem Station.countOpening_lockers_doubles (n : Nat) :
    (s.countOpening n).lockers.doubles = s.lockers.doubles := rfl
@[simp] theorem Station.countOpening_claims (n : Nat) : (s.countOpening n).claims = s.claims := rfl
@[simp] theorem Station.countOpening_directory (n : Nat) : (s.countOpening n).directory = s.directory := rfl
@[simp] theorem Station.countOpening_tally (n : Nat) : (s.countOpening n).tally = s.tally := rfl
@[simp] theorem Station.countOpening_cabins (n : Nat) : (s.countOpening n).cabins = s.cabins := rfl
@[simp] theorem Station.countOpening_drive (n : Nat) : (s.countOpening n).drive = s.drive := rfl
@[simp] theorem Station.countOpening_scan (n : Nat) : (s.countOpening n).scan = s.scan := rfl
@[simp] theorem Station.countOpening_link (n : Nat) : (s.countOpening n).link = s.link := rfl
@[simp] theorem Station.countOpening_orders (n : Nat) : (s.countOpening n).orders = s.orders := rfl
@[simp] theorem Station.countOpening_panel (n : Nat) : (s.countOpening n).panel = s.panel := rfl
@[simp] theorem Station.countOpening_restart (n : Nat) : (s.countOpening n).restart = s.restart := rfl

/-! ### forceDoor -/

@[simp] theorem Station.forceDoor_now (n : Nat) : (s.forceDoor n).now = s.now := rfl
@[simp] theorem Station.forceDoor_deliveries (n : Nat) : (s.forceDoor n).deliveries = s.deliveries := rfl
@[simp] theorem Station.forceDoor_taps (n : Nat) : (s.forceDoor n).taps = s.taps := rfl
@[simp] theorem Station.forceDoor_lockers_holdings (n : Nat) :
    (s.forceDoor n).lockers.holdings = s.lockers.holdings := rfl
@[simp] theorem Station.forceDoor_lockers_minute (n : Nat) :
    (s.forceDoor n).lockers.minute = s.lockers.minute := rfl
@[simp] theorem Station.forceDoor_lockers_minuteDue (n : Nat) :
    (s.forceDoor n).lockers.minuteDue = s.lockers.minuteDue := rfl
@[simp] theorem Station.forceDoor_lockers_forcedDoors (n : Nat) :
    (s.forceDoor n).lockers.forcedDoors = satInc s.lockers.forcedDoors := rfl
@[simp] theorem Station.forceDoor_lockers_doubles (n : Nat) :
    (s.forceDoor n).lockers.doubles = s.lockers.doubles := rfl
@[simp] theorem Station.forceDoor_claims (n : Nat) : (s.forceDoor n).claims = s.claims := rfl
@[simp] theorem Station.forceDoor_directory (n : Nat) : (s.forceDoor n).directory = s.directory := rfl
@[simp] theorem Station.forceDoor_tally (n : Nat) : (s.forceDoor n).tally = s.tally := rfl
@[simp] theorem Station.forceDoor_cabins (n : Nat) : (s.forceDoor n).cabins = s.cabins := rfl
@[simp] theorem Station.forceDoor_drive (n : Nat) : (s.forceDoor n).drive = s.drive := rfl
@[simp] theorem Station.forceDoor_scan (n : Nat) : (s.forceDoor n).scan = s.scan := rfl
@[simp] theorem Station.forceDoor_link (n : Nat) : (s.forceDoor n).link = s.link := rfl
@[simp] theorem Station.forceDoor_orders (n : Nat) : (s.forceDoor n).orders = s.orders := rfl
@[simp] theorem Station.forceDoor_panel (n : Nat) : (s.forceDoor n).panel = s.panel := rfl
@[simp] theorem Station.forceDoor_restart (n : Nat) : (s.forceDoor n).restart = s.restart := rfl

/-! ### countWear -/

@[simp] theorem Station.countWear_now (n : Nat) : (s.countWear n).now = s.now := rfl
@[simp] theorem Station.countWear_deliveries (n : Nat) : (s.countWear n).deliveries = s.deliveries := rfl
@[simp] theorem Station.countWear_taps (n : Nat) : (s.countWear n).taps = s.taps := rfl
@[simp] theorem Station.countWear_lockers_holdings (n : Nat) :
    (s.countWear n).lockers.holdings = s.lockers.holdings := rfl
@[simp] theorem Station.countWear_lockers_minute (n : Nat) :
    (s.countWear n).lockers.minute = s.lockers.minute := rfl
@[simp] theorem Station.countWear_lockers_minuteDue (n : Nat) :
    (s.countWear n).lockers.minuteDue = s.lockers.minuteDue := rfl
@[simp] theorem Station.countWear_lockers_forcedDoors (n : Nat) :
    (s.countWear n).lockers.forcedDoors = s.lockers.forcedDoors := rfl
@[simp] theorem Station.countWear_lockers_doubles (n : Nat) :
    (s.countWear n).lockers.doubles = s.lockers.doubles := rfl
@[simp] theorem Station.countWear_claims (n : Nat) : (s.countWear n).claims = s.claims := rfl
@[simp] theorem Station.countWear_directory (n : Nat) : (s.countWear n).directory = s.directory := rfl
@[simp] theorem Station.countWear_tally (n : Nat) : (s.countWear n).tally = s.tally := rfl
@[simp] theorem Station.countWear_cabins (n : Nat) : (s.countWear n).cabins = s.cabins := rfl
@[simp] theorem Station.countWear_drive (n : Nat) : (s.countWear n).drive = s.drive := rfl
@[simp] theorem Station.countWear_scan (n : Nat) : (s.countWear n).scan = s.scan := rfl
@[simp] theorem Station.countWear_link (n : Nat) : (s.countWear n).link = s.link := rfl
@[simp] theorem Station.countWear_orders (n : Nat) : (s.countWear n).orders = s.orders := rfl
@[simp] theorem Station.countWear_panel (n : Nat) : (s.countWear n).panel = s.panel := rfl
@[simp] theorem Station.countWear_restart (n : Nat) : (s.countWear n).restart = s.restart := rfl

/-! ### boltReached -/

@[simp] theorem Station.boltReached_now (n : Nat) : (s.boltReached n).now = s.now := rfl
@[simp] theorem Station.boltReached_deliveries (n : Nat) : (s.boltReached n).deliveries = s.deliveries := rfl
@[simp] theorem Station.boltReached_taps (n : Nat) : (s.boltReached n).taps = s.taps := rfl
@[simp] theorem Station.boltReached_lockers_holdings (n : Nat) :
    (s.boltReached n).lockers.holdings = s.lockers.holdings := rfl
@[simp] theorem Station.boltReached_lockers_minute (n : Nat) :
    (s.boltReached n).lockers.minute = s.lockers.minute := rfl
@[simp] theorem Station.boltReached_lockers_minuteDue (n : Nat) :
    (s.boltReached n).lockers.minuteDue = s.lockers.minuteDue := rfl
@[simp] theorem Station.boltReached_lockers_forcedDoors (n : Nat) :
    (s.boltReached n).lockers.forcedDoors = s.lockers.forcedDoors := rfl
@[simp] theorem Station.boltReached_lockers_doubles (n : Nat) :
    (s.boltReached n).lockers.doubles = s.lockers.doubles := rfl
@[simp] theorem Station.boltReached_claims (n : Nat) : (s.boltReached n).claims = s.claims := rfl
@[simp] theorem Station.boltReached_directory (n : Nat) : (s.boltReached n).directory = s.directory := rfl
@[simp] theorem Station.boltReached_tally (n : Nat) : (s.boltReached n).tally = s.tally := rfl
@[simp] theorem Station.boltReached_cabins (n : Nat) : (s.boltReached n).cabins = s.cabins := rfl
@[simp] theorem Station.boltReached_drive (n : Nat) : (s.boltReached n).drive = s.drive := rfl
@[simp] theorem Station.boltReached_scan (n : Nat) : (s.boltReached n).scan = s.scan := rfl
@[simp] theorem Station.boltReached_link (n : Nat) : (s.boltReached n).link = s.link := rfl
@[simp] theorem Station.boltReached_orders (n : Nat) : (s.boltReached n).orders = s.orders := rfl
@[simp] theorem Station.boltReached_panel (n : Nat) : (s.boltReached n).panel = s.panel := rfl
@[simp] theorem Station.boltReached_restart (n : Nat) : (s.boltReached n).restart = s.restart := rfl

/-! ### removeClaim -/

@[simp] theorem Station.removeClaim_now (p : PartyKey) : (s.removeClaim p).now = s.now := rfl
@[simp] theorem Station.removeClaim_deliveries (p : PartyKey) :
    (s.removeClaim p).deliveries = s.deliveries := rfl
@[simp] theorem Station.removeClaim_taps (p : PartyKey) : (s.removeClaim p).taps = s.taps := rfl
@[simp] theorem Station.removeClaim_lockers (p : PartyKey) : (s.removeClaim p).lockers = s.lockers := rfl
@[simp] theorem Station.removeClaim_claims_claims (p : PartyKey) :
    (s.removeClaim p).claims.claims = s.claims.claims.filter fun c => decide (c.party ≠ p) := rfl
@[simp] theorem Station.removeClaim_claims_announcements (p : PartyKey) :
    (s.removeClaim p).claims.announcements = s.claims.announcements := rfl
@[simp] theorem Station.removeClaim_claims_walk (p : PartyKey) :
    (s.removeClaim p).claims.walk = s.claims.walk := rfl
@[simp] theorem Station.removeClaim_claims_confirmed (p : PartyKey) :
    (s.removeClaim p).claims.confirmed = s.claims.confirmed := rfl
@[simp] theorem Station.removeClaim_claims_yielded (p : PartyKey) :
    (s.removeClaim p).claims.yielded = s.claims.yielded := rfl
@[simp] theorem Station.removeClaim_claims_failed (p : PartyKey) :
    (s.removeClaim p).claims.failed = s.claims.failed := rfl
@[simp] theorem Station.removeClaim_directory (p : PartyKey) :
    (s.removeClaim p).directory = s.directory := rfl
@[simp] theorem Station.removeClaim_tally (p : PartyKey) : (s.removeClaim p).tally = s.tally := rfl
@[simp] theorem Station.removeClaim_cabins (p : PartyKey) : (s.removeClaim p).cabins = s.cabins := rfl
@[simp] theorem Station.removeClaim_drive (p : PartyKey) : (s.removeClaim p).drive = s.drive := rfl
@[simp] theorem Station.removeClaim_scan (p : PartyKey) : (s.removeClaim p).scan = s.scan := rfl
@[simp] theorem Station.removeClaim_link (p : PartyKey) : (s.removeClaim p).link = s.link := rfl
@[simp] theorem Station.removeClaim_orders (p : PartyKey) : (s.removeClaim p).orders = s.orders := rfl
@[simp] theorem Station.removeClaim_panel (p : PartyKey) : (s.removeClaim p).panel = s.panel := rfl
@[simp] theorem Station.removeClaim_restart (p : PartyKey) : (s.removeClaim p).restart = s.restart := rfl

/-! ### countFailed -/

@[simp] theorem Station.countFailed_now : (s.countFailed).now = s.now := rfl
@[simp] theorem Station.countFailed_deliveries : (s.countFailed).deliveries = s.deliveries := rfl
@[simp] theorem Station.countFailed_taps : (s.countFailed).taps = s.taps := rfl
@[simp] theorem Station.countFailed_lockers : (s.countFailed).lockers = s.lockers := rfl
@[simp] theorem Station.countFailed_claims_claims : (s.countFailed).claims.claims = s.claims.claims := rfl
@[simp] theorem Station.countFailed_claims_announcements :
    (s.countFailed).claims.announcements = s.claims.announcements := rfl
@[simp] theorem Station.countFailed_claims_walk : (s.countFailed).claims.walk = s.claims.walk := rfl
@[simp] theorem Station.countFailed_claims_confirmed :
    (s.countFailed).claims.confirmed = s.claims.confirmed := rfl
@[simp] theorem Station.countFailed_claims_yielded : (s.countFailed).claims.yielded = s.claims.yielded := rfl
@[simp] theorem Station.countFailed_claims_failed :
    (s.countFailed).claims.failed = satInc s.claims.failed := rfl
@[simp] theorem Station.countFailed_directory : (s.countFailed).directory = s.directory := rfl
@[simp] theorem Station.countFailed_tally : (s.countFailed).tally = s.tally := rfl
@[simp] theorem Station.countFailed_cabins : (s.countFailed).cabins = s.cabins := rfl
@[simp] theorem Station.countFailed_drive : (s.countFailed).drive = s.drive := rfl
@[simp] theorem Station.countFailed_scan : (s.countFailed).scan = s.scan := rfl
@[simp] theorem Station.countFailed_link : (s.countFailed).link = s.link := rfl
@[simp] theorem Station.countFailed_orders : (s.countFailed).orders = s.orders := rfl
@[simp] theorem Station.countFailed_panel : (s.countFailed).panel = s.panel := rfl
@[simp] theorem Station.countFailed_restart : (s.countFailed).restart = s.restart := rfl

/-! ### countYielded -/

@[simp] theorem Station.countYielded_now : (s.countYielded).now = s.now := rfl
@[simp] theorem Station.countYielded_deliveries : (s.countYielded).deliveries = s.deliveries := rfl
@[simp] theorem Station.countYielded_taps : (s.countYielded).taps = s.taps := rfl
@[simp] theorem Station.countYielded_lockers : (s.countYielded).lockers = s.lockers := rfl
@[simp] theorem Station.countYielded_claims_claims : (s.countYielded).claims.claims = s.claims.claims := rfl
@[simp] theorem Station.countYielded_claims_announcements :
    (s.countYielded).claims.announcements = s.claims.announcements := rfl
@[simp] theorem Station.countYielded_claims_walk : (s.countYielded).claims.walk = s.claims.walk := rfl
@[simp] theorem Station.countYielded_claims_confirmed :
    (s.countYielded).claims.confirmed = s.claims.confirmed := rfl
@[simp] theorem Station.countYielded_claims_yielded :
    (s.countYielded).claims.yielded = satInc s.claims.yielded := rfl
@[simp] theorem Station.countYielded_claims_failed : (s.countYielded).claims.failed = s.claims.failed := rfl
@[simp] theorem Station.countYielded_directory : (s.countYielded).directory = s.directory := rfl
@[simp] theorem Station.countYielded_tally : (s.countYielded).tally = s.tally := rfl
@[simp] theorem Station.countYielded_cabins : (s.countYielded).cabins = s.cabins := rfl
@[simp] theorem Station.countYielded_drive : (s.countYielded).drive = s.drive := rfl
@[simp] theorem Station.countYielded_scan : (s.countYielded).scan = s.scan := rfl
@[simp] theorem Station.countYielded_link : (s.countYielded).link = s.link := rfl
@[simp] theorem Station.countYielded_orders : (s.countYielded).orders = s.orders := rfl
@[simp] theorem Station.countYielded_panel : (s.countYielded).panel = s.panel := rfl
@[simp] theorem Station.countYielded_restart : (s.countYielded).restart = s.restart := rfl

/-! ### Lookups once an event has been taken, or time has passed -/

@[simp] theorem Station.take_live (c : Instr) : (s.take c).live = s.live := rfl
@[simp] theorem Station.reach_live (t : Moment) : (s.reach t).live = s.live := rfl
@[simp] theorem Station.take_serving (c : Instr) : (s.take c).serving = s.serving := rfl
@[simp] theorem Station.reach_serving (t : Moment) : (s.reach t).serving = s.serving := rfl
@[simp] theorem Station.take_locker (c : Instr) (n : Nat) : (s.take c).locker? n = s.locker? n := rfl
@[simp] theorem Station.reach_locker (t : Moment) (n : Nat) : (s.reach t).locker? n = s.locker? n := rfl
@[simp] theorem Station.take_lockerState (c : Instr) (n : Nat) :
    (s.take c).lockerState n = s.lockerState n := rfl
@[simp] theorem Station.reach_lockerState (t : Moment) (n : Nat) :
    (s.reach t).lockerState n = s.lockerState n := rfl
@[simp] theorem Station.take_holdingAt (c : Instr) (n : Nat) : (s.take c).holdingAt n = s.holdingAt n := rfl
@[simp] theorem Station.reach_holdingAt (t : Moment) (n : Nat) :
    (s.reach t).holdingAt n = s.holdingAt n := rfl
@[simp] theorem Station.take_holdingOf (c : Instr) (p : PartyKey) :
    (s.take c).holdingOf p = s.holdingOf p := rfl
@[simp] theorem Station.reach_holdingOf (t : Moment) (p : PartyKey) :
    (s.reach t).holdingOf p = s.holdingOf p := rfl
@[simp] theorem Station.take_claimOf (c : Instr) (p : PartyKey) : (s.take c).claimOf p = s.claimOf p := rfl
@[simp] theorem Station.reach_claimOf (t : Moment) (p : PartyKey) : (s.reach t).claimOf p = s.claimOf p := rfl
@[simp] theorem Station.take_claimAt (c : Instr) (n : Nat) : (s.take c).claimAt n = s.claimAt n := rfl
@[simp] theorem Station.reach_claimAt (t : Moment) (n : Nat) : (s.reach t).claimAt n = s.claimAt n := rfl
@[simp] theorem Station.take_cabin (c : Instr) (n : Nat) : (s.take c).cabin? n = s.cabin? n := rfl
@[simp] theorem Station.reach_cabin (t : Moment) (n : Nat) : (s.reach t).cabin? n = s.cabin? n := rfl
@[simp] theorem Station.take_cabinState (c : Instr) (n : Nat) :
    (s.take c).cabinState n = s.cabinState n := rfl
@[simp] theorem Station.reach_cabinState (t : Moment) (n : Nat) :
    (s.reach t).cabinState n = s.cabinState n := rfl
@[simp] theorem Station.take_queueEntry (c : Instr) (b : BitVec 24) :
    (s.take c).queueEntry b = s.queueEntry b := rfl
@[simp] theorem Station.reach_queueEntry (t : Moment) (b : BitVec 24) :
    (s.reach t).queueEntry b = s.queueEntry b := rfl
@[simp] theorem Station.take_request (c : Instr) (n : Nat) : (s.take c).request? n = s.request? n := rfl
@[simp] theorem Station.reach_request (t : Moment) (n : Nat) : (s.reach t).request? n = s.request? n := rfl
@[simp] theorem Station.take_pad (c : Instr) (n : Nat) : (s.take c).pad? n = s.pad? n := rfl
@[simp] theorem Station.reach_pad (t : Moment) (n : Nat) : (s.reach t).pad? n = s.pad? n := rfl
@[simp] theorem Station.take_input (c : Instr) (r : Reader) : (s.take c).input? r = s.input? r := rfl
@[simp] theorem Station.reach_input (t : Moment) (r : Reader) : (s.reach t).input? r = s.input? r := rfl
@[simp] theorem Station.take_presence (c : Instr) (n : Nat) : (s.take c).presence n = s.presence n := rfl
@[simp] theorem Station.reach_presence (t : Moment) (n : Nat) : (s.reach t).presence n = s.presence n := rfl
@[simp] theorem Station.take_freeCabins (c : Instr) : (s.take c).freeCabins = s.freeCabins := rfl
@[simp] theorem Station.reach_freeCabins (t : Moment) : (s.reach t).freeCabins = s.freeCabins := rfl
@[simp] theorem Station.take_cabinsInService (c : Instr) :
    (s.take c).cabinsInService = s.cabinsInService := rfl
@[simp] theorem Station.reach_cabinsInService (t : Moment) :
    (s.reach t).cabinsInService = s.cabinsInService := rfl
@[simp] theorem Station.take_entryOf (c : Instr) (p : PartyKey) : (s.take c).entryOf p = s.entryOf p := rfl
@[simp] theorem Station.reach_entryOf (t : Moment) (p : PartyKey) : (s.reach t).entryOf p = s.entryOf p := rfl
@[simp] theorem Station.take_redirectOf (c : Instr) (b : BitVec 24) :
    (s.take c).redirectOf b = s.redirectOf b := rfl
@[simp] theorem Station.reach_redirectOf (t : Moment) (b : BitVec 24) :
    (s.reach t).redirectOf b = s.redirectOf b := rfl
@[simp] theorem Station.take_frameOnLine (c : Instr) : (s.take c).frameOnLine = s.frameOnLine := rfl
@[simp] theorem Station.reach_frameOnLine (t : Moment) : (s.reach t).frameOnLine = s.frameOnLine := rfl
@[simp] theorem Station.take_oldestWaiting (c : Instr) : (s.take c).oldestWaiting = s.oldestWaiting := rfl
@[simp] theorem Station.reach_oldestWaiting (t : Moment) : (s.reach t).oldestWaiting = s.oldestWaiting := rfl
@[simp] theorem Station.take_lowestFree (c : Instr) : (s.take c).lowestFree = s.lowestFree := rfl
@[simp] theorem Station.reach_lowestFree (t : Moment) : (s.reach t).lowestFree = s.lowestFree := rfl
@[simp] theorem Station.take_occupiedBy (c : Instr) (b : BitVec 24) :
    (s.take c).occupiedBy b = s.occupiedBy b := rfl
@[simp] theorem Station.reach_occupiedBy (t : Moment) (b : BitVec 24) :
    (s.reach t).occupiedBy b = s.occupiedBy b := rfl
@[simp] theorem Station.take_neighbour (c : Instr) (x : Nat) : (s.take c).neighbour? x = s.neighbour? x := rfl
@[simp] theorem Station.reach_neighbour (t : Moment) (x : Nat) :
    (s.reach t).neighbour? x = s.neighbour? x := rfl
@[simp] theorem Station.take_doorClosed (c : Instr) (n : Nat) :
    (s.take c).doorClosed n = s.doorClosed n := rfl
@[simp] theorem Station.take_boltEngaged (c : Instr) (n : Nat) :
    (s.take c).boltEngaged n = s.boltEngaged n := rfl
@[simp] theorem Station.take_latchLevel (c : Instr) (n : Nat) :
    (s.take c).latchLevel n = s.latchLevel n := rfl
@[simp] theorem Station.take_freeClosed (c : Instr) (l : Locker) :
    (s.take c).freeClosed l = s.freeClosed l := rfl

end Sys2Proof.Machine
end

