-- ==== Sys2Proof/Laws/Tables.lean ====
section
/-!
SUPPORT. Lookups in the numbered tables: what a change of one record, or of all records of a kind, does to the
records that a lookup finds.
-/

namespace Sys2Proof

/-- Two changes of the same records are one change. -/
theorem updateWhere_updateWhere {α : Type} (p : α → Bool) (f g : α → α) (l : List α)
    (keeps : ∀ x, p x = true → p (f x) = true) :
    updateWhere p g (updateWhere p f l) = updateWhere p (fun x => g (f x)) l := by
  simp only [updateWhere, List.map_map]
  refine List.map_congr_left fun x _ => ?_
  by_cases h : p x = true <;> simp [h, keeps]

/-- A change keeps the number of records. -/
@[simp] theorem updateWhere_length {α : Type} (p : α → Bool) (f : α → α) (l : List α) :
    (updateWhere p f l).length = l.length := by simp [updateWhere]

/-- A lookup of the changed records finds the record found before, changed. -/
theorem find?_updateWhere_same {α : Type} (p : α → Bool) (f : α → α) (l : List α)
    (keeps : ∀ x, p (f x) = p x) : (updateWhere p f l).find? p = (l.find? p).map f := by
  induction l with
  | nil => rfl
  | cons x xs ih =>
    by_cases h : p x = true
    · simp [updateWhere, h, keeps]
    · simp only [updateWhere, List.map_cons, h, Bool.false_eq_true, if_false] at ih ⊢
      simpa [List.find?_cons, h] using ih

/-- A lookup of other records finds what it found before. -/
theorem find?_updateWhere_other {α : Type} (p q : α → Bool) (f : α → α) (l : List α)
    (apart : ∀ x, p x = true → q x = false) (keeps : ∀ x, p x = true → q (f x) = false) :
    (updateWhere p f l).find? q = l.find? q := by
  induction l with
  | nil => rfl
  | cons x xs ih =>
    simp only [updateWhere, List.map_cons] at ih ⊢
    by_cases h : p x = true
    · simp [h, keeps x h, apart x h, ih]
    · by_cases g : q x = true <;> simp [h, g, ih]

/-- A change that leaves a field alone leaves the list of that field alone. -/
theorem map_updateWhere {α β : Type} (p : α → Bool) (f : α → α) (key : α → β) (l : List α)
    (keeps : ∀ x, key (f x) = key x) : (updateWhere p f l).map key = l.map key := by
  simp only [updateWhere, List.map_map]
  refine List.map_congr_left fun x _ => ?_
  by_cases h : p x = true <;> simp [h, keeps]

/-- A change that leaves alone every record it would touch changes nothing. -/
theorem updateWhere_of_forall {α : Type} (p : α → Bool) (f : α → α) (l : List α)
    (h : ∀ x ∈ l, p x = true → f x = x) : updateWhere p f l = l := by
  induction l with
  | nil => rfl
  | cons x xs ih =>
    have tail := ih fun y hy => h y (List.mem_cons_of_mem _ hy)
    simp only [updateWhere, List.map_cons] at tail ⊢
    rw [tail]
    by_cases g : p x = true <;> simp [g, h x List.mem_cons_self]

/-- A change that makes no record pass a test leaves no more that pass it. -/
theorem countP_updateWhere_le {α : Type} (p q : α → Bool) (f : α → α) (l : List α)
    (h : ∀ x, p x = true → q (f x) = true → q x = true) :
    (updateWhere p f l).countP q ≤ l.countP q := by
  rw [updateWhere, List.countP_map]
  refine List.countP_mono_left fun x _ hx => ?_
  by_cases hp : p x = true
  · simp only [Function.comp, hp, if_true] at hx; exact h x hp hx
  · simpa [Function.comp, hp] using hx

/-- A change after which the changed records fail a test leaves fewer that pass it. -/
theorem countP_updateWhere_lt {α : Type} (p q : α → Bool) (f : α → α) (l : List α)
    (h : ∀ x, p x = true → q (f x) = false) {a : α} (ha : a ∈ l) (pa : p a = true) (qa : q a = true) :
    (updateWhere p f l).countP q < l.countP q := by
  induction l with
  | nil => cases ha
  | cons x xs ih =>
    have le := countP_updateWhere_le p q f xs fun y hy hq => by simp [h y hy] at hq
    rcases List.mem_cons.1 ha with e | e
    · subst e
      simp only [updateWhere, List.map_cons, List.countP_cons, pa, if_true, h a pa, qa,
        Bool.false_eq_true, if_false] at le ⊢
      omega
    · have := ih e
      simp only [updateWhere, List.map_cons, List.countP_cons] at this ⊢
      by_cases hp : p x = true
      · simp only [hp, if_true, h x hp, Bool.false_eq_true, if_false]; omega
      · simp only [hp, Bool.false_eq_true, if_false]; omega

/-- Leaving out a record that passes a test leaves fewer that pass it. -/
theorem countP_filter_lt {α : Type} (p q : α → Bool) (l : List α) {a : α} (ha : a ∈ l)
    (pa : p a = false) (qa : q a = true) : (l.filter p).countP q < l.countP q := by
  induction l with
  | nil => cases ha
  | cons x xs ih =>
    have le : (xs.filter p).countP q ≤ xs.countP q := List.Sublist.countP_le List.filter_sublist
    rcases List.mem_cons.1 ha with e | e
    · subst e
      simp only [List.filter_cons, pa, Bool.false_eq_true, if_false, List.countP_cons, qa, if_true]
      omega
    · have := ih e
      by_cases hp : p x = true
      · simp only [List.filter_cons, hp, if_true, List.countP_cons]; omega
      · simp only [List.filter_cons, hp, Bool.false_eq_true, if_false, List.countP_cons]; omega

namespace Machine

variable (s : Station)

/-! ### Locker and holding records -/

theorem locker?_changeLocker (n : Nat) (f : Locker → Locker) (keeps : ∀ l, (f l).number = l.number) :
    (s.changeLocker n f).locker? n = (s.locker? n).map f :=
  find?_updateWhere_same _ f _ fun l => by simp [keeps]

theorem locker?_changeLocker_other (n m : Nat) (f : Locker → Locker) (keeps : ∀ l, (f l).number = l.number)
    (h : m ≠ n) : (s.changeLocker n f).locker? m = s.locker? m :=
  find?_updateWhere_other _ _ f _ (fun l hl => by simp_all [Ne.symm h]) fun l hl => by
    simp_all [Ne.symm h]

theorem locker?_number {n : Nat} {l : Locker} (h : s.locker? n = some l) : l.number = n := by
  simpa using List.find?_some h

theorem holdingOf_party {p : PartyKey} {h : Holding} (e : s.holdingOf p = some h) : h.party = p := by
  simpa using List.find?_some e

theorem holdingAt_locker {n : Nat} {h : Holding} (e : s.holdingAt n = some h) : h.locker = n := by
  simpa using List.find?_some e

theorem claimOf_party {p : PartyKey} {c : Claim} (h : s.claimOf p = some c) : c.party = p := by
  simpa using List.find?_some h

/-! ### Cabin records, requests and pads -/

theorem cabin?_changeCabin (n : Nat) (f : Cabin → Cabin) (keeps : ∀ c, (f c).number = c.number) :
    (s.changeCabin n f).cabin? n = (s.cabin? n).map f :=
  find?_updateWhere_same _ f _ fun c => by simp [keeps]

theorem cabin?_changeCabin_other (n m : Nat) (f : Cabin → Cabin) (keeps : ∀ c, (f c).number = c.number)
    (h : m ≠ n) : (s.changeCabin n f).cabin? m = s.cabin? m :=
  find?_updateWhere_other _ _ f _ (fun c hc => by simp_all [Ne.symm h]) fun c hc => by
    simp_all [Ne.symm h]

theorem cabin?_number {n : Nat} {c : Cabin} (h : s.cabin? n = some c) : c.number = n := by
  simpa using List.find?_some h

theorem request?_output {o : Nat} {r : DriveRequest} (h : s.request? o = some r) : r.output = o := by
  simpa using List.find?_some h

theorem pad?_number {n : Nat} {p : Pad} (h : s.pad? n = some p) : p.number = n := by
  simpa using List.find?_some h

/-- A withdrawn output has no request. -/
theorem request?_removeRequest (o : Nat) : (s.removeRequest o).request? o = none := by
  simp [Station.request?]

/-- Two changes of a cabin are one. -/
theorem changeCabin_changeCabin (n : Nat) (f g : Cabin → Cabin) (keeps : ∀ c, (f c).number = c.number) :
    (s.changeCabin n f).changeCabin n g = s.changeCabin n fun c => g (f c) := by
  simp only [Station.changeCabin]
  rw [updateWhere_updateWhere]
  intro c h
  simpa [keeps] using h

/-- Two changes of a locker are one. -/
theorem changeLocker_changeLocker (n : Nat) (f g : Locker → Locker) (keeps : ∀ l, (f l).number = l.number) :
    (s.changeLocker n f).changeLocker n g = s.changeLocker n fun l => g (f l) := by
  simp only [Station.changeLocker]
  rw [updateWhere_updateWhere]
  intro l h
  simpa [keeps] using h

/-- Two changes of a reader input are one. -/
theorem changeInput_changeInput (r : Reader) (f g : ReaderInput → ReaderInput)
    (keeps : ∀ i, (f i).reader = i.reader) :
    (s.changeInput r f).changeInput r g = s.changeInput r fun i => g (f i) := by
  simp only [Station.changeInput]
  rw [updateWhere_updateWhere]
  intro i h
  simpa [keeps] using h

theorem input?_changeInput (r : Reader) (f : ReaderInput → ReaderInput) (keeps : ∀ i, (f i).reader = i.reader) :
    (s.changeInput r f).input? r = (s.input? r).map f :=
  find?_updateWhere_same _ f _ fun i => by simp [keeps]

end Machine

end Sys2Proof
end

