-- ==== Sys2Proof/Laws/Ops.lean ====
section
/-!
SUPPORT. What each shared operation can do, said once: a command that runs, the owners' reports, an offered
frame, the grants, a latch target, a holding that ends, a withdrawn request.
-/

namespace Sys2Proof.Machine

open Sys2Proof

variable (s : Station)

/-! ### Running a command -/

/-- A command whose meaning is `perform` runs to the station its effect leaves. -/
theorem runs_perform {c : Instr} {st : State} {f : Station → Station} {P : Station → Station → Prop}
    (h : exec c st = perform c f st) (p : P (st.station.take c) (f (st.station.take c))) : Runs c st P :=
  ⟨f (st.station.take c), h, p⟩

/-- A command whose meaning is `performFinish` runs to the station in which the owners have had their reports. -/
theorem runs_performFinish {c : Instr} {st : State} {f : Station → Station} {P : Station → Station → Prop}
    (h : exec c st = performFinish c f st) (p : P (st.station.take c) (f (st.station.take c)).finish) :
    Runs c st P :=
  ⟨(f (st.station.take c)).finish, h, p⟩

theorem whenLive_live (f : Station → Station) (h : s.live = true) : whenLive f s = f s := by
  simp [whenLive, h]

/-! ### The owners' reports (R138) -/

/-- With no report waiting there is nothing to take. -/
theorem finish_settled (h : s.link.reports = []) : s.finish = s := by
  unfold Station.finish takeReports
  rw [h]

theorem takeReports_settles (fuel : Nat) (t : Station) : (takeReports fuel t).link.reports = [] := by
  induction fuel generalizing t with
  | zero => rfl
  | succ k ih =>
    unfold takeReports
    split
    · assumption
    · exact ih _

/-- When the owners have taken their reports, none waits. -/
theorem finish_settles : s.finish.link.reports = [] := takeReports_settles _ _

/-- One waiting report is taken, and then those that it causes. -/
theorem finish_one (r : FrameReport) (h : s.link.reports = [r])
    (quiet : ({ s with link.reports := [] }.takeReport r).link.reports = []) :
    s.finish = { s with link.reports := [] }.takeReport r := by
  unfold Station.finish takeReports
  rw [h]
  unfold takeReports
  simp [quiet]

/-! ### An offered frame (R135, R140) -/

/-- With the link UP and room in the queue, a frame that replaces no TALLY enters at its place. -/
theorem offer_enters (kind : Kind) (content : List Byte) (owner : Owner) (role : Role)
    (up : s.link.up = true ∨ kind = .recall ∨ kind = .report)
    (fresh : ¬ (kind = .tally ∧ waitingTally s.link.queue = true)) (room : s.link.queue.length < 12) :
    s.offer kind content owner role =
      { s with
        link.queue := insertFrame (s.newFrame kind content owner role) s.link.queue
        link.nextFrame := s.link.nextFrame + 1 } := by
  have down : (!s.link.up && decide (kind ≠ .recall) && decide (kind ≠ .report)) = false := by
    rcases up with h | h | h <;> simp [h]
  have tally : (decide (kind = .tally) && waitingTally s.link.queue) = false := by
    by_cases h : kind = .tally <;> simp_all
  unfold Station.offer
  simp only [down, tally, room, if_true, Bool.false_eq_true, if_false]

theorem insertFrame_length (f : TxFrame) (queue : List TxFrame) :
    (insertFrame f queue).length = queue.length + 1 := by
  unfold insertFrame
  have h := congrArg List.length
    (List.takeWhile_append_dropWhile (p := fun g => decide (kindCode g.kind ≤ kindCode f.kind)) (l := queue))
  simp only [List.length_append, List.length_cons] at h ⊢
  omega

/-- A frame that finds room with the link UP makes no report. -/
theorem offer_reports (kind : Kind) (content : List Byte) (owner : Owner) (role : Role)
    (up : s.link.up = true ∨ kind = .recall ∨ kind = .report) (room : s.link.queue.length < 12) :
    (s.offer kind content owner role).link.reports = s.link.reports := by
  have down : (!s.link.up && decide (kind ≠ .recall) && decide (kind ≠ .report)) = false := by
    rcases up with h | h | h <;> simp [h]
  unfold Station.offer
  simp only [down, room, if_true, Bool.false_eq_true, if_false]
  split <;> rfl

/-- An offer changes the link and nothing else. -/
theorem offer_frame (kind : Kind) (content : List Byte) (owner : Owner) (role : Role) :
    s.offer kind content owner role = { s with link := (s.offer kind content owner role).link } := by
  unfold Station.offer
  dsimp only
  split
  · rfl
  · split
    · rfl
    · split
      · rfl
      · split <;> rfl

/-- An offer leaves the link's state and its watches alone. -/
theorem offer_up (kind : Kind) (content : List Byte) (owner : Owner) (role : Role) :
    (s.offer kind content owner role).link.up = s.link.up := by
  unfold Station.offer
  dsimp only
  split
  · rfl
  · split
    · rfl
    · split
      · rfl
      · split <;> rfl

/-! ### The drive (R146, R152) -/

/-- What the drive's operations can reach: the request queue and the cabins' records. -/
def DriveFrame (s t : Station) : Prop :=
  t = { s with drive.queue := t.drive.queue, cabins.cabins := t.cabins.cabins }

theorem DriveFrame.rfl' : DriveFrame s s := rfl

theorem DriveFrame.trans {s t u : Station} (h : DriveFrame s t) (g : DriveFrame t u) : DriveFrame s u := by
  unfold DriveFrame at *
  rw [g, h]

theorem enqueue_driveFrame (o : Nat) (p : DrivePurpose) : DriveFrame s (s.enqueue o p) := by
  unfold Station.enqueue
  split <;> rfl

theorem enqueueLatch_driveFrame (n : Nat) : DriveFrame s (s.enqueueLatch n) := by
  unfold Station.enqueueLatch
  split
  · rfl
  · exact (enqueue_driveFrame s _ _).trans rfl

theorem latchDone_driveFrame (n : Nat) : DriveFrame s (s.latchDone n) :=
  DriveFrame.trans (t := s.changeCabin n fun c => { c with latchMoving := false }) rfl
    (enqueueLatch_driveFrame _ _)

theorem grantOne_driveFrame (t : Station) (h : s.grantOne = some t) : DriveFrame s t := by
  unfold Station.grantOne at h
  split at h
  · cases h
  · split at h
    · split at h
      · cases h
        exact DriveFrame.trans (t := s.removeRequest _) rfl (latchDone_driveFrame _ _)
      · cases h
        rfl
    · cases h

theorem grants_driveFrame (fuel : Nat) (t : Station) : DriveFrame t (grants fuel t) := by
  induction fuel generalizing t with
  | zero => rfl
  | succ k ih =>
    unfold grants
    split
    · rfl
    · rename_i u h
      exact (grantOne_driveFrame t u h).trans (ih u)

/-- Grants change the request queue and the cabins' records, and nothing else. -/
theorem grantTest_driveFrame : DriveFrame s s.grantTest := grants_driveFrame _ _

/-- With no grant to be made the test changes nothing. -/
theorem grantTest_none (h : s.grantOne = none) : s.grantTest = s := by
  unfold Station.grantTest
  cases 2 * s.drive.queue.length <;> simp [grants, h]

theorem makeRequest_driveFrame (o : Nat) (p : DrivePurpose) : DriveFrame s (s.makeRequest o p) :=
  (enqueue_driveFrame s o p).trans (grantTest_driveFrame _)

theorem compareLatch_driveFrame (n : Nat) : DriveFrame s (s.compareLatch n) := by
  unfold Station.compareLatch
  split
  · rfl
  · exact (enqueueLatch_driveFrame s n).trans (grantTest_driveFrame _)

/-- A withdrawn request leaves the queue; a pull cut short leaves its slot to rest. -/
theorem withdrawDrive_frame (o : Nat) :
    s.withdrawDrive o =
      { s with drive.queue := (s.withdrawDrive o).drive.queue, drive.slots := (s.withdrawDrive o).drive.slots } := by
  unfold Station.withdrawDrive
  split
  · rfl
  · split <;> rfl

/-- A withdrawal at the expiry of the grant wait reaches the drive arbiter alone, at that moment. -/
theorem withdrawGrant_frame (n : Nat) (t : Moment) :
    s.withdrawGrant n t = { s with now := max s.now t, drive := (s.withdrawGrant n t).drive } := by
  unfold Station.withdrawGrant
  rw [withdrawDrive_frame (s.reach t)]
  dsimp only
  split
  · rfl
  · split
    · split
      · next h =>
        rw [withdrawDrive_frame]
        simp only [Station.reach, Nat.max_assoc, Nat.max_eq_right (Nat.le_of_lt h)]
      · rfl
    · rfl

/-- R152: a pull that would end at the moment of the grant wait or later is cut short, as any pull withdrawn. -/
theorem withdrawGrant_cut (n : Nat) (t : Moment)
    (h : ∀ r slot ends, s.request? (lockerOutput n) = some r → r.phase = .pull slot ends → t ≤ ends) :
    s.withdrawGrant n t = (s.reach t).withdrawDrive (lockerOutput n) := by
  unfold Station.withdrawGrant
  dsimp only
  split
  · rfl
  · next r hr =>
    split
    · next slot ends hp => rw [if_neg (Nat.not_lt.mpr (h r slot ends hr hp))]
    · rfl

/-- A start loses nothing of the retained state (R196). -/
theorem retained_loseVolatile : s.loseVolatile.retained = s.retained := by
  unfold Station.retained Station.loseVolatile
  simp [Function.comp_def, Locker.kept, Cabin.kept, Station.counters]

/-- The check kept through a start is that of the retained state at its beginning (R196). -/
theorem beginWarm_check (cause : StartCause) (h : s.restart.phase = .running) :
    (s.beginWarm cause).restart.check = s.retentionCheck := by
  simp [Station.beginWarm, Station.keptCheck, h]

/-- A latch target reaches the request queue, the slots and the cabins' records. -/
theorem setLatchTarget_frame (n : Nat) (target : Option Latch) :
    s.setLatchTarget n target =
      { s with
        drive.queue := (s.setLatchTarget n target).drive.queue
        drive.slots := (s.setLatchTarget n target).drive.slots
        cabins.cabins := (s.setLatchTarget n target).cabins.cabins } := by
  have step (t : Station) (h : DriveFrame t (t.compareLatch n)) :
      t.compareLatch n =
        { t with
          drive.queue := (t.compareLatch n).drive.queue
          drive.slots := (t.compareLatch n).drive.slots
          cabins.cabins := (t.compareLatch n).cabins.cabins } := by
    unfold DriveFrame at h
    rw [h]
  unfold Station.setLatchTarget
  dsimp only
  split
  · rw [step _ (compareLatch_driveFrame _ n)]
    rfl
  · split
    · rfl
    · split
      · rfl
      · rw [step _ (compareLatch_driveFrame _ n), withdrawDrive_frame]
        rfl

/-! ### Links of the drive's frame -/

@[simp] theorem makeRequest_link (o : Nat) (p : DrivePurpose) : (s.makeRequest o p).link = s.link := by
  rw [makeRequest_driveFrame s o p]

@[simp] theorem grantTest_link : s.grantTest.link = s.link := by rw [grantTest_driveFrame s]

@[simp] theorem compareLatch_link (n : Nat) : (s.compareLatch n).link = s.link := by
  rw [compareLatch_driveFrame s n]

@[simp] theorem setLatchTarget_link (n : Nat) (target : Option Latch) :
    (s.setLatchTarget n target).link = s.link := by
  rw [setLatchTarget_frame]

@[simp] theorem withdrawDrive_link (o : Nat) : (s.withdrawDrive o).link = s.link := by rw [withdrawDrive_frame]

@[simp] theorem unboltLocker_link (n : Nat) (p : Purpose) (back : LockerState) (g : Option Moment) :
    (s.unboltLocker n p back g).link = s.link := by
  simp [Station.unboltLocker]

/-! ### Operations that leave the link alone -/

@[simp] theorem touchEntry_link (p : PartyKey) : (s.touchEntry p).link = s.link := by
  unfold Station.touchEntry
  split <;> rfl

@[simp] theorem recordRedirect_link (b : BitVec 24) (m : Moment) : (s.recordRedirect b m).link = s.link := by
  unfold Station.recordRedirect
  split <;> rfl

@[simp] theorem forget_link (p : PartyKey) (x : Nat) : (s.forget p x).link = s.link := by
  unfold Station.forget
  split
  · split <;> rfl
  · rfl

@[simp] theorem takeConfirmed_link (c : Claim) (u : Bool) : (s.takeConfirmed c u).link = s.link := by
  unfold Station.takeConfirmed
  dsimp only
  split <;> simp

@[simp] theorem confirmClaim_link (c : Claim) (u : Bool) : (s.confirmClaim c u).link = s.link := by
  unfold Station.confirmClaim
  simp only [takeConfirmed_link]
  split <;> rfl

@[simp] theorem reserveCabin_link (n : Nat) (e : QueueEntry) : (s.reserveCabin n e).link = s.link := by
  simp [Station.reserveCabin]

@[simp] theorem freeCabin_link (n : Nat) : (s.freeCabin n).link = s.link := by
  simp [Station.freeCabin]

@[simp] theorem releaseCabin_link (n : Nat) : (s.releaseCabin n).link = s.link := by
  unfold Station.releaseCabin
  split <;> simp

@[simp] theorem returnEntry_link (b : BitVec 24) : (s.returnEntry b).link = s.link := by
  unfold Station.returnEntry
  dsimp only
  split <;> simp

@[simp] theorem occupyCabin_link (n : Nat) (b : Option (BitVec 24)) : (s.occupyCabin n b).link = s.link := by
  simp [Station.occupyCabin]

@[simp] theorem cabinBack_link (n : Nat) : (s.cabinBack n).link = s.link := by
  unfold Station.cabinBack
  split <;> simp

@[simp] theorem compareLatches_link (count : Nat) : (s.compareLatches count).link = s.link := by
  unfold Station.compareLatches
  generalize List.range count = l
  induction l generalizing s with
  | nil => rfl
  | cons i l ih => simp [ih]

@[simp] theorem rebuild_link (p : PartyKey) (l : Nat) (b : BitVec 24) : (s.rebuild p l b).link = s.link := by
  unfold Station.rebuild
  dsimp only
  split <;> rfl

@[simp] theorem setDouble_link (h : Holding) : (s.setDouble h).link = s.link := by
  unfold Station.setDouble
  split <;> rfl

@[simp] theorem settleJam_link_attendant (l : Locker) (h : l.purpose ≠ some .first) :
    (s.settleJam l).link = s.link := by
  unfold Station.settleJam Station.settleHeld
  dsimp only
  split
  · exact absurd ‹_› h
  all_goals first | rfl | (split <;> rfl)

/-! ### Taps refused (R14, R192) -/

theorem satAdd_toNat (x y : BitVec 16) : (satAdd x y).toNat = min 65535 (x.toNat + y.toNat) := by
  unfold satAdd
  split
  · rw [BitVec.toNat_add, Nat.mod_eq_of_lt ‹_›]; omega
  · simp only [BitVec.toNat_allOnes]; omega

/-- R192: in STRAP_FAULT a partial record leaves the retained state untouched. -/
theorem refuseTap_retained (h : s.restart.mode = .strapFault) : s.refuseTap.retained = s.retained := by
  unfold Station.refuseTap
  rw [if_pos h]
  rfl

@[simp] theorem countHeld_refused :
    s.countHeld.taps.refused.toNat = min 65535 (s.taps.refused.toNat + s.taps.heldRefused.toNat) :=
  satAdd_toNat _ _

@[simp] theorem countHeld_heldRefused : s.countHeld.taps.heldRefused = 0 := rfl

end Sys2Proof.Machine
end

