-- ==== Sys2Proof/Laws/Link.lean ====
section
/-!
SUPPORT. What can be said once of the transmit queue with a frame on the line (R128, R131), of the announcement walk
(R64) and of RECOUNT production (R82): a step at a time, and how many frames they can offer.
-/

namespace Sys2Proof.Machine

open Sys2Proof

variable (s : Station)

/-- On a link that is UP, or DOWN before its recessive span, a frame heard clears the dominant watch. -/
theorem frameHeard_stays (stays : s.link.up = true ∨ s.link.recessiveSeen = false) :
    s.frameHeard = s.heardLine := by
  rcases stays with h | h <;> simp [Station.frameHeard, Station.clearWatch, Station.heardLine, h]

/-! ### A frame on the line -/

section OnLine

variable {before after : List TxFrame} {f : TxFrame}

/-- The frame on the line is the one of the queue that is there. -/
theorem find?_onLine (off : ∀ g ∈ before ++ after, g.onLine = false) (on : f.onLine = true) :
    (before ++ f :: after).find? (·.onLine) = some f := by
  rw [List.find?_append, List.find?_eq_none.2 fun x hx => by simp [off x (by simp [hx])]]
  simp [on]

theorem id_apart (ids : ((before ++ f :: after).map (·.id)).Nodup) : ∀ g ∈ before ++ after, g.id ≠ f.id := by
  intro g hg e
  simp only [List.map_append, List.map_cons, List.nodup_append, List.nodup_cons, List.mem_map] at ids
  rcases List.mem_append.1 hg with h | h
  · exact ids.2.2 _ ⟨g, h, rfl⟩ _ (by simp) e
  · exact ids.2.1.1 ⟨g, h, e⟩

/-- A frame that leaves the queue leaves the others in their order. -/
theorem removeFrame_split (ids : ((before ++ f :: after).map (·.id)).Nodup) :
    removeFrame f.id (before ++ f :: after) = before ++ after := by
  have apart := id_apart ids
  simp only [removeFrame, List.filter_append, List.filter_cons, ne_eq, not_true_eq_false, decide_false,
    Bool.false_eq_true, if_false]
  rw [List.filter_eq_self.2 fun a ha => by simp [apart a (by simp [ha])],
    List.filter_eq_self.2 fun a ha => by simp [apart a (by simp [ha])]]

/-- A change of the frame leaves it at its place and the others alone. -/
theorem updateFrame_split (ids : ((before ++ f :: after).map (·.id)).Nodup) (change : TxFrame → TxFrame) :
    updateWhere (fun g => decide (g.id = f.id)) change (before ++ f :: after) = before ++ change f :: after := by
  have apart := id_apart ids
  have same (l : List TxFrame) (h : ∀ g ∈ l, g.id ≠ f.id) :
      updateWhere (fun g => decide (g.id = f.id)) change l = l :=
    (List.map_congr_left fun g hg => by simp [h g hg]).trans (List.map_id l)
  have one : updateWhere (fun g => decide (g.id = f.id)) change (f :: after) = change f :: after := by
    rw [show updateWhere (fun g => decide (g.id = f.id)) change (f :: after) =
      change f :: updateWhere (fun g => decide (g.id = f.id)) change after by simp [updateWhere]]
    rw [same after fun g hg => apart g (by simp [hg])]
  rw [updateWhere, List.map_append]
  exact congrArg₂ (· ++ ·) (same before fun g hg => apart g (by simp [hg])) one

/-- The attempt's frame is superseded where it is withdrawn, or a TALLY behind which another waits (R136, R137). -/
theorem superseded_iff {t : Station} (queue : t.link.queue = before ++ f :: after)
    (off : ∀ g ∈ before ++ after, g.onLine = false) (on : f.onLine = true) :
    t.superseded f = true ↔ f.withdrawn = true ∨ (f.kind = .tally ∧ ∃ g ∈ before ++ after, g.kind = .tally) := by
  have waits : waitingTally t.link.queue = true ↔ ∃ g ∈ before ++ after, g.kind = .tally := by
    simp only [queue, waitingTally, List.any_eq_true, Bool.and_eq_true, decide_eq_true_eq, Bool.not_eq_true']
    constructor
    · rintro ⟨g, hg, kind, wait⟩
      refine ⟨g, ?_, kind⟩
      rcases List.mem_append.1 hg with h | h
      · simp [h]
      · rcases List.mem_cons.1 h with rfl | h
        · rw [on] at wait; cases wait
        · simp [h]
    · rintro ⟨g, hg, kind⟩
      refine ⟨g, ?_, kind, off g hg⟩
      rcases List.mem_append.1 hg with h | h <;> simp [h]
  simp only [Station.superseded, Bool.or_eq_true, Bool.and_eq_true, decide_eq_true_eq, waits]

end OnLine

/-! ### Offers with room (R135) -/

/-- A frame offered to a link that is UP, with room in the queue, takes at most one place of it. -/
theorem offer_length (kind : Kind) (content : List Byte) (owner : Owner) (role : Role) (up : s.link.up = true)
    (room : s.link.queue.length < 12) :
    (s.offer kind content owner role).link.queue.length ≤ s.link.queue.length + 1 := by
  unfold Station.offer
  simp only [up, room, Bool.not_true, Bool.false_and, Bool.false_eq_true, if_false, if_true]
  split
  · simp only [insertFrame_length]
    exact Nat.succ_le_succ (List.length_filter_le _ _)
  · simp [insertFrame_length]

/-! ### The announcement walk (R64) -/

/-- The steps that a walk can still make. -/
def Station.walkLeft (s : Station) : Nat :=
  (if s.claims.walk.isSome then 1 else 0) + (2 - s.claims.announcements.length)

theorem walkLeft_le : s.walkLeft ≤ 3 := by
  unfold Station.walkLeft
  split <;> omega

/-- The announcing CLAIM enters the queue, and the list and the walk follow. -/
theorem announce_claims (h : Holding) :
    (s.announce h).claims.announcements.length = s.claims.announcements.length + 1 := by
  simp only [Station.announce]
  rw [offer_frame]
  simp

theorem walkOne_spec {t : Station} (h : s.walkOne = some t) : t.walkLeft < s.walkLeft := by
  unfold Station.walkOne at h
  split at h
  · cases h
  · rename_i position walk
    split at h
    · rename_i few
      have on : s.claims.walk.isSome = true := by rw [walk]; rfl
      split at h <;> cases h
      · simp only [Station.walkLeft, on, if_true]
        simp
      · rename_i g _
        have grows := announce_claims s g
        simp only [Station.walkLeft, grows, on, if_true]
        split <;> omega
    · cases h

/-- With fuel for the steps left, more fuel changes nothing. -/
theorem walkOn_enough {s : Station} {n m : Nat} (hn : s.walkLeft ≤ n) (hm : s.walkLeft ≤ m) :
    walkOn n s = walkOn m s := by
  induction n generalizing s m with
  | zero =>
    cases h : s.walkOne with
    | none => cases m <;> simp [walkOn, h]
    | some t => have := walkOne_spec s h; omega
  | succ n ih =>
    cases h : s.walkOne with
    | none => cases m <;> simp [walkOn, h]
    | some t =>
      have := walkOne_spec s h
      cases m with
      | zero => omega
      | succ m => simpa [walkOn, h] using ih (s := t) (m := m) (by omega) (by omega)

/-- A walk that cannot go on rests. -/
theorem continueWalk_rests (h : s.walkOne = none) : s.continueWalk = s := by
  simp [Station.continueWalk, walkOn, h]

/-- A walk goes on from each of its steps. -/
theorem continueWalk_step {t : Station} (h : s.walkOne = some t) : s.continueWalk = t.continueWalk := by
  have left := walkLeft_le t
  rw [Station.continueWalk, Station.continueWalk, show walkOn 64 s = walkOn 63 t by simp [walkOn, h]]
  exact walkOn_enough (by omega) (by omega)

/-- A walk changes the link, the announcement list and the walk's position, and nothing else. -/
theorem walkOn_frame (fuel : Nat) (t : Station) :
    walkOn fuel t =
      { t with
        link := (walkOn fuel t).link
        claims.announcements := (walkOn fuel t).claims.announcements
        claims.walk := (walkOn fuel t).claims.walk } := by
  induction fuel generalizing t with
  | zero => rfl
  | succ n ih =>
    unfold walkOn
    split
    · rfl
    · rename_i u h
      have step : u =
          { t with link := u.link, claims.announcements := u.claims.announcements, claims.walk := u.claims.walk } := by
        unfold Station.walkOne at h
        split at h
        · cases h
        · split at h
          · split at h <;> cases h
            · rfl
            · simp only [Station.announce]
              rw [offer_frame]
          · cases h
      rw [ih u, step]

/-! ### RECOUNT production (R82) -/

/-- The entries still marked for a RECOUNT. -/
def Station.marked (s : Station) : Nat := s.directory.cache.countP (·.recountDue)

theorem produceOne_spec {t : Station} (h : s.produceOne = some t) : t.marked < s.marked := by
  unfold Station.produceOne at h
  split at h
  · split at h
    · cases h
    · rename_i e found
      have fewer : (s.clearRecount e.party).marked < s.marked :=
        countP_updateWhere_lt _ _ _ _ (fun _ _ => rfl) (List.mem_of_find?_eq_some found) (by simp)
          (by simpa using List.find?_some found)
      dsimp only at h
      split at h <;> cases h
      · exact fewer
      · have same (k : Kind) (c : List Byte) (o : Owner) (r : Role) (u : Station) : (u.offer k c o r).directory = u.directory := by
          rw [offer_frame]
        simpa only [Station.marked, same] using fewer
  · cases h

theorem produceRecounts_enough {s : Station} {n m : Nat} (hn : s.marked ≤ n) (hm : s.marked ≤ m) :
    produceRecounts n s = produceRecounts m s := by
  induction n generalizing s m with
  | zero =>
    cases h : s.produceOne with
    | none => cases m <;> simp [produceRecounts, h]
    | some t => have := produceOne_spec s h; omega
  | succ n ih =>
    cases h : s.produceOne with
    | none => cases m <;> simp [produceRecounts, h]
    | some t =>
      have := produceOne_spec s h
      cases m with
      | zero => omega
      | succ m => simpa [produceRecounts, h] using ih (s := t) (m := m) (by omega) (by omega)

/-- Production that cannot go on rests. -/
theorem produce_rests (h : s.produceOne = none) : s.produce = s := by
  unfold Station.produce produceRecounts
  rw [h]

/-- Production goes on from each entry acted on. -/
theorem produce_step (bounded : s.directory.cache.length ≤ 128) {t : Station} (h : s.produceOne = some t) :
    s.produce = t.produce := by
  have marks : s.marked ≤ 128 := Nat.le_trans List.countP_le_length bounded
  have fewer := produceOne_spec s h
  have first : produceRecounts (129 + 1) s = produceRecounts 129 t := by rw [produceRecounts, h]
  rw [Station.produce, first]
  exact produceRecounts_enough (by omega) (by omega)

end Sys2Proof.Machine
end

