-- ==== Sys2Proof/Laws/Down.lean ====
section
/-!
SUPPORT. What going DOWN does, said once (R62, R64, R83, R139): the reports that it makes, and what is left when the
owners of the emptied queue's frames have taken them. On the way, what a local confirmation leaves alone.
-/

namespace Sys2Proof.Machine

open Sys2Proof

/-- The report of a frame that the emptied queue held. -/
def emptiedReport (f : TxFrame) : FrameReport :=
  { frame := f, fate := if f.kind = .claim then .emptied else .notSent }

/-- The station with other reports waiting. -/
def Station.withReports (R : List FrameReport) (s : Station) : Station := { s with link.reports := R }

variable (R : List FrameReport)

/-! ### No operation of a confirmation reads the reports -/

theorem enqueue_withReports (o p) (s : Station) : (s.withReports R).enqueue o p = (s.enqueue o p).withReports R := by
  by_cases h : (s.request? o).isSome = true
  · have h' : ((s.withReports R).request? o).isSome = true := h
    simp [Station.enqueue, h, h']
  · have h' : ¬ ((s.withReports R).request? o).isSome = true := h
    rw [Station.enqueue, Station.enqueue, if_neg h, if_neg h']; rfl

theorem enqueueLatch_withReports (n) (s : Station) :
    (s.withReports R).enqueueLatch n = (s.enqueueLatch n).withReports R := by
  have same : (s.withReports R).cabin? n = s.cabin? n := rfl
  unfold Station.enqueueLatch
  rw [same]
  split
  · rfl
  · rw [enqueue_withReports]; rfl

theorem grantOne_withReports (s : Station) :
    (s.withReports R).grantOne = s.grantOne.map (Station.withReports R) := by
  have a : (s.withReports R).restart = s.restart := rfl
  have b : (s.withReports R).freeSlot = s.freeSlot := rfl
  have c : (s.withReports R).grantable = s.grantable := rfl
  have d (r) : (s.withReports R).atTarget r = s.atTarget r := rfl
  have e (r slot) : (s.withReports R).startPull r slot = (s.startPull r slot).withReports R := rfl
  have g (o n) : ((s.withReports R).removeRequest o).latchDone n =
      ((s.removeRequest o).latchDone n).withReports R :=
    enqueueLatch_withReports R n ((s.removeRequest o).changeCabin n fun c => { c with latchMoving := false })
  unfold Station.grantOne
  rw [a, b, c]
  simp only [d, e, g]
  split
  · rfl
  · split
    · split <;> rfl
    · rfl

theorem grants_withReports (n) (s : Station) : grants n (s.withReports R) = (grants n s).withReports R := by
  induction n generalizing s with
  | zero => rfl
  | succ n ih =>
    unfold grants
    rw [grantOne_withReports]
    cases s.grantOne with
    | none => rfl
    | some t => exact ih t

theorem confirmClaim_withReports (s : Station) (c u) :
    (s.withReports R).confirmClaim c u = (s.confirmClaim c u).withReports R := by
  have grantTest (v : Station) : (v.withReports R).grantTest = v.grantTest.withReports R :=
    grants_withReports R _ v
  have taken (v : Station) : (v.withReports R).takeConfirmed c u = (v.takeConfirmed c u).withReports R := by
    have d : (v.withReports R).doorClosed c.locker = v.doorClosed c.locker := rfl
    unfold Station.takeConfirmed
    dsimp only
    rw [d]
    split
    · unfold Station.unboltLocker Station.makeRequest
      rw [← grantTest, ← enqueue_withReports]
      rfl
    · rfl
  unfold Station.confirmClaim
  dsimp only
  rw [← taken]
  congr 1
  show (if c.insist = true then _ else _) = Station.withReports R (if c.insist = true then _ else _)
  split <;> rfl

/-- A confirmation changes the claims table, the cache, the lockers, the cabins and the request queue; the announcement
list and the walk stay. -/
theorem confirmClaim_frame (s : Station) (c u) :
    s.confirmClaim c u =
      { s with
        claims := (s.confirmClaim c u).claims
        directory.cache := (s.confirmClaim c u).directory.cache
        lockers := (s.confirmClaim c u).lockers
        cabins.cabins := (s.confirmClaim c u).cabins.cabins
        drive.queue := (s.confirmClaim c u).drive.queue } ∧
      (s.confirmClaim c u).claims.announcements = s.claims.announcements ∧
      (s.confirmClaim c u).claims.walk = s.claims.walk := by
  have taken (v : Station) : v.takeConfirmed c u =
      { v with
        lockers := (v.takeConfirmed c u).lockers
        cabins.cabins := (v.takeConfirmed c u).cabins.cabins
        drive.queue := (v.takeConfirmed c u).drive.queue } := by
    unfold Station.takeConfirmed
    dsimp only
    split
    · unfold Station.unboltLocker
      generalize hw : Station.changeLocker _ _ _ = w
      have h := makeRequest_driveFrame w (lockerOutput c.locker) (.bolt .first)
      have hw' : w = { v with lockers := w.lockers } := by rw [← hw]; rfl
      generalize w.makeRequest _ _ = x at *
      unfold DriveFrame at h
      rw [h]
      dsimp only
      rw [hw']
    · rfl
  unfold Station.confirmClaim
  dsimp only
  generalize hw : (if c.insist = true then _ else _ : Station) = w
  have hw' : w = { s with claims := w.claims, directory.cache := w.directory.cache } ∧
      w.claims.announcements = s.claims.announcements ∧ w.claims.walk = s.claims.walk := by
    rw [← hw]; split <;> exact ⟨rfl, rfl, rfl⟩
  have h := taken w
  generalize w.takeConfirmed c u = x at *
  obtain ⟨a, b, d⟩ := hw'
  rw [h]
  refine ⟨?_, b, d⟩
  dsimp only
  rw [a]

/-! ### Going DOWN -/

/-- The owners take the reports of an emptied queue's frames, in the order of the queue. -/
theorem takeReports_emptied (queue : List TxFrame) (fuel : Nat) (enough : queue.length < fuel) (s : Station)
    (down : s.link.up = false) (list : s.claims.announcements = []) (counts : s.directory.recounts = 0)
    (settled : s.link.reports = []) (running : s.restart.phase = .running) :
    takeReports fuel (s.withReports (queue.map emptiedReport)) = toldEmptied queue s := by
  induction queue generalizing fuel s with
  | nil =>
    obtain ⟨n, rfl⟩ : ∃ n, fuel = n + 1 := ⟨fuel - 1, by simp at enough; omega⟩
    have : s.withReports [] = s := by rw [Station.withReports, ← settled]
    unfold takeReports toldEmptied
    simp only [List.map_nil, this, settled]
  | cons f rest ih =>
    obtain ⟨n, rfl⟩ : ∃ n, fuel = n + 1 := ⟨fuel - 1, by simp at enough; omega⟩
    simp only [List.length_cons] at enough
    set W := rest.map emptiedReport with hW
    have step : takeReports (n + 1) (s.withReports ((f :: rest).map emptiedReport)) =
        takeReports n ((s.withReports W).takeReport (emptiedReport f)) := rfl
    rw [step]
    have same : toldEmptied rest s = takeReports n (s.withReports W) :=
      (ih n (by omega) s down list counts settled running).symm
    have idle (h : (s.withReports W).takeReport (emptiedReport f) = s.withReports W)
        (nr : ¬ (f.kind = .report ∧ s.orders.restartWait.map (·.frame) = some f.id))
        (nc : s.emptiedClaim f = none) :
      takeReports n ((s.withReports W).takeReport (emptiedReport f)) = toldEmptied (f :: rest) s := by
      rw [h, toldEmptied, if_neg nr, nc]; exact same.symm
    have noclaim (h : f.kind ≠ .claim) : s.emptiedClaim f = none :=
      List.find?_eq_none.2 fun c _ => by simp [h]
    match k : f.kind with
    | .held => exact idle (by simp only [Station.takeReport, emptiedReport, k]) (by simp [k]) (noclaim (by simp [k]))
    | .yield => exact idle (by simp only [Station.takeReport, emptiedReport, k]) (by simp [k]) (noclaim (by simp [k]))
    | .free => exact idle (by simp only [Station.takeReport, emptiedReport, k]) (by simp [k]) (noclaim (by simp [k]))
    | .tally => exact idle (by simp only [Station.takeReport, emptiedReport, k]) (by simp [k]) (noclaim (by simp [k]))
    | .recall =>
      refine idle ?_ (by simp [k]) (noclaim (by simp [k]))
      simp only [Station.takeReport, emptiedReport, k]; rfl
    | .recount =>
      refine idle ?_ (by simp [k]) (noclaim (by simp [k]))
      simp only [Station.takeReport, emptiedReport, k]
      have z : ({ s.withReports W with directory.recounts := (s.withReports W).directory.recounts - 1 } : Station) =
          s.withReports W := by
        have : (s.withReports W).directory.recounts - 1 = s.directory.recounts := by
          show s.directory.recounts - 1 = _
          omega
        rw [this]
        rfl
      rw [Station.recountReported, z]
      apply produce_rests
      have : (s.withReports W).link.up = false := down
      simp [Station.produceOne, this]
    | .report =>
      by_cases hr : s.orders.restartWait.map (·.frame) = some f.id
      · rw [toldEmptied, if_pos ⟨k, hr⟩]
        simp only [Station.takeReport, emptiedReport, k]
        obtain ⟨w, hw, hf⟩ := Option.map_eq_some_iff.1 hr
        have : (s.withReports W).orders.restartWait = some w := hw
        simp only [Station.reportReported, this, hf, if_true]
        have done : (s.withReports W).beginOrdered = s.ordered := by
          unfold Station.beginOrdered Station.endCause Station.beginWarm Station.ordered Station.keptCheck
          have p : (s.withReports W).restart.phase = .running := running
          rw [if_pos p]
          rfl
        rw [done]
        have e : s.ordered.link.reports = [] := rfl
        cases n with
        | zero => omega
        | succ n => unfold takeReports; rw [e]
      · refine idle ?_ (by simp [hr]) (noclaim (by simp [k]))
        simp only [Station.takeReport, emptiedReport, k, Station.reportReported]
        show (match s.orders.restartWait with | some w => _ | none => _) = _
        cases hw : s.orders.restartWait with
        | none => rfl
        | some w =>
          simp only [hw, Option.map_some, Option.some.injEq] at hr
          simp only [hr, if_false]
    | .claim =>
      cases r : f.role with
      | plain =>
        refine idle ?_ (by simp [k]) (List.find?_eq_none.2 fun c _ => by simp [r])
        simp only [Station.takeReport, emptiedReport, k, r]
      | announcement l =>
        refine idle ?_ (by simp [k]) (List.find?_eq_none.2 fun c _ => by simp [r])
        simp only [Station.takeReport, emptiedReport, k, r, Station.announcementReported, if_true]
        have : (s.withReports W).claims.announcements = [] := list
        simp [this]
      | claim =>
        have find : s.emptiedClaim f = s.claims.claims.find? fun c => decide (c.frame = some f.id) := by
          simp [Station.emptiedClaim, k, r]
        cases hc : s.claims.claims.find? fun c => decide (c.frame = some f.id) with
        | none =>
          refine idle ?_ (by simp [k]) (by rw [find, hc])
          have : ((s.withReports W).claims.claims.find? fun c => decide (c.frame = some f.id)) = none := hc
          simp only [Station.takeReport, emptiedReport, k, r, Station.claimReported, this, if_true]
        | some c =>
          have : ((s.withReports W).claims.claims.find? fun c => decide (c.frame = some f.id)) = some c := hc
          rw [toldEmptied, if_neg (by simp [k]), find, hc]
          simp only [Station.takeReport, emptiedReport, k, r, Station.claimReported, this, if_true]
          rw [confirmClaim_withReports]
          obtain ⟨fr, an, wk⟩ := confirmClaim_frame s c true
          refine ih n (by omega) (s.confirmClaim c true) ?_ ?_ ?_ ?_ ?_
          · rw [fr]; exact down
          · rw [an]; exact list
          · rw [fr]; exact counts
          · rw [fr]; exact settled
          · rw [fr]; exact running

/-- Going DOWN reports each frame of the queue. -/
theorem goDown_reports (s : Station) (settled : s.link.reports = []) :
    s.goDown = s.wentDown.withReports (s.link.queue.map emptiedReport) := by
  have fold (queue : List TxFrame) (b : Station) :
      queue.foldl (fun s f => s.reportFate f (if f.kind = .claim then .emptied else .notSent)) b =
        { b with
          link.reports := b.link.reports ++
            queue.map emptiedReport
          link.framesLost :=
            (queue.filter fun f => decide (f.kind ≠ .claim)).foldl (fun n _ => satInc n) b.link.framesLost } := by
    induction queue generalizing b with
    | nil => simp
    | cons f rest ih =>
      rw [List.foldl_cons, ih]
      by_cases h : f.kind = .claim <;> simp [Station.reportFate, emptiedReport, h]
  unfold Station.goDown
  dsimp only
  rw [fold]
  simp only [settled, List.nil_append, Station.wentDown, Station.withReports]

/-- Going DOWN, and the owners' part in it. -/
theorem goDown_finish (s : Station) (settled : s.link.reports = []) (short : s.link.queue.length < 400)
    (running : s.restart.phase = .running) : s.goDown.finish = toldEmptied s.link.queue s.wentDown := by
  rw [goDown_reports s settled]
  exact takeReports_emptied _ _ short _ rfl rfl rfl settled running

end Sys2Proof.Machine
end

