-- ==== Sys2Proof/Laws/Grants.lean ====
section
/-!
SUPPORT. The grant test ends: a grant leaves fewer grants due, while every cabin's record shows its latch where the
filtered level stands (R146, R147).
-/

namespace Sys2Proof.Machine

open Sys2Proof

variable (s : Station)

/-- The grants that can follow: one for each WAITING request, and one more where a latch is at its target. -/
def Station.grantsDue (s : Station) : Nat :=
  s.drive.queue.countP (fun r => decide (r.phase = .waiting)) +
    s.drive.queue.countP fun r => decide (r.phase = .waiting) && s.atTarget r

/-- A grant leaves fewer grants due, and every latch as seen. -/
theorem grantOne_spec (seen : s.LatchesSeen) {t : Station} (h : s.grantOne = some t) :
    t.LatchesSeen ∧ t.grantsDue < s.grantsDue := by
  unfold Station.grantOne at h
  split at h
  · cases h
  · split at h
    · rename_i slot r hs hr
      have rq := List.mem_of_find?_eq_some hr
      have rp := List.find?_some hr
      simp only [Bool.and_eq_true, decide_eq_true_eq] at rp
      split at h
      · rename_i hat
        cases h
        generalize hn : r.output - 59 = n
        have W : (s.removeRequest r.output).drive.queue.countP (fun r => decide (r.phase = .waiting)) <
            s.drive.queue.countP (fun r => decide (r.phase = .waiting)) :=
          countP_filter_lt _ _ _ rq (by simp) (by simp [rp.1])
        have A : (s.removeRequest r.output).drive.queue.countP
              (fun r => decide (r.phase = .waiting) && s.atTarget r) <
            s.drive.queue.countP (fun r => decide (r.phase = .waiting) && s.atTarget r) :=
          countP_filter_lt _ _ _ rq (by simp) (by simp [rp.1, hat])
        let u := (s.removeRequest r.output).changeCabin n fun c => { c with latchMoving := false }
        have su : u.LatchesSeen := by
          intro c hc
          simp only [u, Station.changeCabin_cabins_cabins, updateWhere, List.mem_map] at hc
          obtain ⟨d, hd, rfl⟩ := hc
          have := seen d hd
          split <;> exact this
        show ((u.enqueueLatch n).LatchesSeen ∧ (u.enqueueLatch n).grantsDue < s.grantsDue)
        unfold Station.enqueueLatch
        split
        · refine ⟨su, ?_⟩
          show (s.removeRequest r.output).drive.queue.countP (fun r => decide (r.phase = .waiting)) +
            (s.removeRequest r.output).drive.queue.countP (fun r => decide (r.phase = .waiting) && s.atTarget r) < _
          unfold Station.grantsDue; omega
        · rename_i x hx
          obtain ⟨c, hc, hw⟩ := Option.bind_eq_some_iff.1 hx
          have cn := cabin?_number u hc
          have cm : c ∈ u.cabins.cabins := List.mem_of_find?_eq_some hc
          have far : u.latchLevel n ≠ x := by
            have := su c cm
            rw [cn] at this
            unfold latchWanted at hw
            split at hw
            · cases hw
            · split at hw
              · cases hw
                rename_i _ _ _ hh
                simp at hh
                rw [← this]; exact hh.1
              · cases hw
          constructor
          · intro d hd
            unfold Station.enqueue at hd ⊢
            split at hd
            all_goals
              simp only [Station.changeCabin_cabins_cabins, updateWhere, List.mem_map] at hd
              obtain ⟨e, he, rfl⟩ := hd
              have := su e he
              split <;> exact this
          · have key : ((u.enqueue (cabinOutput n) (.latch x)).changeCabin n
                fun c => { c with latchMoving := true }).grantsDue ≤
                (s.removeRequest r.output).drive.queue.countP (fun r => decide (r.phase = .waiting)) + 1 +
                (s.removeRequest r.output).drive.queue.countP (fun r => decide (r.phase = .waiting) && s.atTarget r) := by
              unfold Station.enqueue
              split
              · show (s.removeRequest r.output).drive.queue.countP (fun r => decide (r.phase = .waiting)) +
                  (s.removeRequest r.output).drive.queue.countP (fun r => decide (r.phase = .waiting) && s.atTarget r) ≤ _
                omega
              · have nat : s.atTarget { output := cabinOutput n, purpose := .latch x, attempt := 1, phase := .waiting } = false := by
                  show decide (s.latchLevel (59 + n - 59) = x) = false
                  rw [decide_eq_false_iff_not]
                  have e : 59 + n - 59 = n := by omega
                  intro hh
                  exact far (e ▸ hh)
                show ((s.removeRequest r.output).drive.queue ++ [_]).countP (fun r : DriveRequest => decide (r.phase = DrivePhase.waiting)) +
                  ((s.removeRequest r.output).drive.queue ++ [_]).countP (fun r : DriveRequest => decide (r.phase = DrivePhase.waiting) && s.atTarget r) ≤ _
                simp only [List.countP_append, List.countP_singleton, nat]
                simp
            refine lt_of_le_of_lt key ?_
            unfold Station.grantsDue; omega
      · cases h
        refine ⟨seen, ?_⟩
        have W : (s.startPull r slot).drive.queue.countP (fun r => decide (r.phase = .waiting)) <
            s.drive.queue.countP (fun r => decide (r.phase = .waiting)) :=
          countP_updateWhere_lt _ _ _ _ (by simp) rq (by simp) (by simp [rp.1])
        have A : (s.startPull r slot).drive.queue.countP
              (fun r => decide (r.phase = .waiting) && s.atTarget r) ≤
            s.drive.queue.countP (fun r => decide (r.phase = .waiting) && s.atTarget r) :=
          countP_updateWhere_le _ _ _ _ (by simp)
        show (s.startPull r slot).drive.queue.countP (fun r => decide (r.phase = .waiting)) +
            (s.startPull r slot).drive.queue.countP (fun r => decide (r.phase = .waiting) && s.atTarget r) < _
        unfold Station.grantsDue; omega
    · cases h

/-- Two grants for each request of the queue are enough. -/
theorem grantsDue_le : s.grantsDue ≤ 2 * s.drive.queue.length := by
  unfold Station.grantsDue
  have h1 := List.countP_le_length (p := fun r => decide (r.phase = .waiting)) (l := s.drive.queue)
  have h2 := List.countP_le_length (p := fun r => decide (r.phase = .waiting) && s.atTarget r) (l := s.drive.queue)
  omega

/-- With fuel for the grants due, no grant is left over, and more fuel changes nothing. -/
theorem grants_enough {s : Station} (seen : s.LatchesSeen) {n m : Nat} (hn : s.grantsDue ≤ n) (hm : s.grantsDue ≤ m) :
    grants n s = grants m s ∧ (grants n s).grantOne = none := by
  induction n generalizing s m with
  | zero =>
    have none' : s.grantOne = none := by
      cases h : s.grantOne with
      | none => rfl
      | some t => have := (grantOne_spec s seen h).2; omega
    constructor
    · cases m with
      | zero => rfl
      | succ m => simp [grants, none']
    · exact none'
  | succ n ih =>
    cases h : s.grantOne with
    | none =>
      constructor
      · cases m with
        | zero => simp [grants, h]
        | succ m => simp [grants, h]
      · simp [grants, h]
    | some t =>
      obtain ⟨st, lt⟩ := grantOne_spec s seen h
      cases m with
      | zero => omega
      | succ m =>
        have := ih (s := t) (m := m) st (by omega) (by omega)
        simpa [grants, h] using this

end Sys2Proof.Machine
end

