-- ==== Sys2Proof/Laws/Up.lean ====
section
/-!
SUPPORT. What coming UP does beside the reports that already wait (R64, R83, R141), and the report that begins the
warm start of a RESTART (R190).
-/

namespace Sys2Proof.Machine

open Sys2Proof

/-- The station with other reports in front of those that wait. -/
def Station.behind (R : List FrameReport) (s : Station) : Station := s.withReports (R ++ s.link.reports)

variable (R : List FrameReport) (s : Station)

/-! ### The reports that wait in front change no offer -/

/-- An offer puts its own report behind those that wait, and reads none of them. -/
theorem offer_behind (kind content owner role) :
    (s.behind R).offer kind content owner role = (s.offer kind content owner role).behind R := by
  unfold Station.offer
  dsimp only [Station.behind, Station.withReports, Station.newFrame]
  split
  · simp only [Station.reportFate, List.append_assoc]
  · split
    · rfl
    · split
      · rfl
      · split <;> simp only [Station.reportFate, List.append_assoc]

/-- So does the announcement walk. -/
theorem walkOn_behind (n : Nat) : walkOn n (s.behind R) = (walkOn n s).behind R := by
  induction n generalizing s with
  | zero => rfl
  | succ n ih =>
    have one : (s.behind R).walkOne = s.walkOne.map (Station.behind R) := by
      have a : (s.behind R).claims = s.claims := rfl
      have b (k) : (s.behind R).nextUnannounced k = s.nextUnannounced k := rfl
      have c (h) : (s.behind R).announce h = (s.announce h).behind R := by
        simp only [Station.announce]
        rw [show ∀ n, (s.behind R).lockerSize n = s.lockerSize n from fun _ => rfl, offer_behind]; rfl
      unfold Station.walkOne
      simp only [a, b, c]
      split
      · rfl
      · split
        · split <;> rfl
        · rfl
    unfold walkOn
    rw [one]
    cases s.walkOne with
    | none => rfl
    | some t => exact ih t

/-- So does RECOUNT production. -/
theorem produceRecounts_behind (n : Nat) : produceRecounts n (s.behind R) = (produceRecounts n s).behind R := by
  induction n generalizing s with
  | zero => rfl
  | succ n ih =>
    have one : (s.behind R).produceOne = s.produceOne.map (Station.behind R) := by
      have a : (s.behind R).directory = s.directory := rfl
      have b : (s.behind R).link.up = s.link.up := rfl
      have c (p) : (s.behind R).clearRecount p = (s.clearRecount p).behind R := rfl
      unfold Station.produceOne
      simp only [a, b, c, offer_behind]
      split
      · split
        · rfl
        · split <;> rfl
      · rfl
    unfold produceRecounts
    rw [one]
    cases s.produceOne with
    | none => rfl
    | some t => exact ih t

/-- Production changes the link and the directory, and nothing else. -/
theorem produceRecounts_frame (fuel : Nat) (t : Station) :
    produceRecounts fuel t = { t with
      link := (produceRecounts fuel t).link, directory := (produceRecounts fuel t).directory } := by
  induction fuel generalizing t with
  | zero => rfl
  | succ n ih =>
    unfold produceRecounts
    split
    · rfl
    · rename_i u h
      have step : u = { t with link := u.link, directory := u.directory } := by
        unfold Station.produceOne at h
        split at h
        · split at h
          · cases h
          · dsimp only at h
            split at h <;> cases h
            · rfl
            · rw [offer_frame]; rfl
        · cases h
      rw [ih u, step]

/-! ### The return to UP (R141) -/

/-- The walk and the production of a link come back UP leave their reports behind those that wait. -/
theorem up_behind : (s.behind R).startWalk.produce = s.startWalk.produce.behind R := by
  unfold Station.produce Station.startWalk Station.continueWalk
  rw [← produceRecounts_behind, ← walkOn_behind]; rfl

/-- They leave the order unit and restart control as they are. -/
theorem up_frame : s.startWalk.produce.orders = s.orders ∧ s.startWalk.produce.restart = s.restart := by
  unfold Station.produce Station.startWalk Station.continueWalk
  rw [produceRecounts_frame, walkOn_frame]; exact ⟨rfl, rfl⟩

/-! ### The RESTART that waits (R190) -/

/-- The report of the REPORT that a RESTART waits for, first among the reports, begins the warm start ORDERED. -/
theorem finish_restart (f fate w) (k : f.kind = .report) (wait : s.orders.restartWait = some w)
    (id : w.frame = f.id) (running : s.restart.phase = .running) :
    (s.behind [⟨f, fate⟩]).finish = s.ordered := by
  have t : s.takeReport ⟨f, fate⟩ = s.ordered := by
    simp only [Station.takeReport, k, Station.reportReported, wait, id, if_true, Station.beginOrdered,
      Station.beginWarm, Station.endCause, Station.causeEnded, Station.keptCheck, running, Station.ordered,
      Station.deliver]
    rfl
  show takeReports 399 (s.takeReport ⟨f, fate⟩) = _
  rw [t]; rfl

end Sys2Proof.Machine
end

