-- ==== Sys2Proof/WellFormed.lean ====
section
/-!
DEFINITION. Which terms of `Instr` are commands of the spec: the ranges of their operands (Conventions,
"Numbering"), the length of a frame's content (R127, R130), and, for the ORDER rows, which order the
parameter bytes spell (R143, "Order codes and results"). A meaning is total: it does not ask for this.
-/

namespace Sys2Proof

/-- A locker is numbered from 1 to at most 60. -/
def isLocker (n : Nat) : Bool := 1 ≤ n && n ≤ 60

/-- A cabin is numbered from 1 to at most 8. -/
def isCabin (c : Nat) : Bool := 1 ≤ c && c ≤ 8

/-- A reader input is B or C1 to C8. -/
def Reader.valid : Reader → Bool
  | .bank => true
  | .cabin n => isCabin n

/-- A tap carries the party key that R8 derives from its serial and its family number. -/
def Tap.valid (t : Tap) : Bool :=
  t.party == (if t.family = 0 then ⟨.solo, t.serial⟩ else ⟨.family, t.family.setWidth 24⟩)

/-- A frame's content is 0 to 12 bytes long (R127). -/
def contentFits (content : List Byte) : Bool := content.length ≤ 12

/-- The bytes before the check of a frame read to its end (R127, R130): the arbitration byte, a length byte of 0
to 12, and that many content bytes. -/
def wholeBytes (bytes : List Byte) : Bool :=
  match bytes with
  | _ :: length :: content => length.toNat ≤ 12 && content.length = length.toNat
  | _ => false

/-- An ORDER carries 0 to 9 parameter bytes (R143). -/
def OrderFrame.valid (o : OrderFrame) : Bool := o.params.length ≤ 9

/-- The parameter byte at `i`, where there is one, is one that `ok` accepts. -/
def OrderFrame.selects (o : OrderFrame) (i : Nat) (ok : Byte → Bool) : Bool :=
  match o.params[i]? with
  | some b => ok b
  | none => true

/-- A delivered frame that goes to no block (R132): this station's own number is the state's affair, so any
sender may stand here with a kind that some block would take. A REPORT or an unknown sub-kind needs no more. A kind 6 frame of
fewer than three content bytes stands here too (notes/assumptions/48.md). -/
def discardable (content : List Byte) : Bool := contentFits content

/-- The command is one the spec describes. -/
def Instr.wellFormed : Instr → Bool
  | .readerBreak i => i.valid
  | .readerCharacter i _ _ => i.valid
  | .readerCharacterTimeout i => i.valid
  | .lockerTap t => t.valid
  | .cabinTap n t => isCabin n && t.valid
  | .claimSendDeadline _ => true
  | .claimWindowEnd _ => true
  | .frameAttemptStart => true
  | .arbitrationLost => true
  | .bitError => true
  | .ownFrameDelivered => true
  | .attemptSpoiled => true
  | .frameSpoiled bytes _ => wholeBytes bytes
  | .frameBroken _ => true
  | .frameDiscarded _ _ content => discardable content
  | .heldReceived _ content => contentFits content
  | .yieldReceived _ content => contentFits content
  | .freeReceived _ content => contentFits content
  | .claimReceived _ content => contentFits content
  | .recountReceived _ content => contentFits content
  | .recallReceived _ content => contentFits content
  | .tallyReceived _ content => contentFits content
  | .orderBadCode code o => o.valid && (!(1 ≤ code.toNat && code.toNat ≤ 13) || o.sender.toNat < 28)
  | .setupLockers o => o.valid
  | .setupCabins o => o.valid
  | .setDay o => o.valid
  | .openLocker o => o.valid
  | .endHolding o => o.valid
  | .lockerServiceOff o => o.valid && o.selects 1 (· ≠ 1)
  | .lockerServiceOn o => o.valid && o.selects 1 (· = 1)
  | .cabinServiceOff o => o.valid && o.selects 1 (· ≠ 1)
  | .cabinServiceOn o => o.valid && o.selects 1 (· = 1)
  | .clearFaultLocker o => o.valid && o.selects 0 (fun b => b ≠ 1 && b ≠ 2)
  | .clearFaultCabin o => o.valid && o.selects 0 (· = 1)
  | .clearFaultGroup o => o.valid && o.selects 0 (· = 2)
  | .takeCountersSnapshot o => o.valid && o.selects 0 (· = 0)
  | .readCounters o => o.valid && o.selects 0 (· ≠ 0)
  | .readLocker o => o.valid
  | .readCabins o => o.valid
  | .findParty o => o.valid
  | .restart o => o.valid
  | .restartWaitExpiry => true
  | .tallyTimer => true
  | .neighbourStale x => 1 ≤ x && x ≤ 27
  | .redirectRecordExpiry _ => true
  | .dominantWatchExpiry => true
  | .recessiveSpan => true
  | .minuteTick => true
  | .grantWaitExpiry n => isLocker n
  | .doorWaitExpiry n => isLocker n
  | .boltWaitExpiry n => isLocker n
  | .doorOpened n => isLocker n
  | .doorClosed n => isLocker n
  | .boltEvent n _ => isLocker n
  | .pullEnd o => o ≤ 67
  | .jamRestEnd o => o ≤ 67
  | .slotRestEnd k => 1 ≤ k && k ≤ 4
  | .driveFault g _ => g ≤ 3
  | .driveSupplyLow => true
  | .driveSupplyRise => true
  | .driveSupplySag => true
  | .holdDownRelease => true
  | .cabinClockTick => true
  | .graceExpiry c => isCabin c
  | .admitTimerExpiry c => isCabin c
  | .vacateTimerExpiry c => isCabin c
  | .presenceSeen c => isCabin c
  | .presenceConfirmed c => isCabin c
  | .presenceClear c => isCabin c
  | .latchEvent c _ => isCabin c
  | .cursorTimerExpiry => true
  | .messageHoldExpiry => true
  | .pairTurn => true
  | .scrollStep => true
  | .recoveryWindowExpiry => true
  | .logicSupplyLow => true
  | .logicSupplyLost => true
  | .logicSupplyRestored _ _ => true
  | .resetLineLow => true
  | .resetLineHigh => true
  | .warmStartEnd _ _ _ => true
  | .filterLoadEnd => true
  | .panelFrame => true
  | .senseSample _ => true

end Sys2Proof
end

