-- ==== Sys2Proof/Tests/Slice0.lean ====
section
/-!
SUPPORT. The model's own tests. Expected results come from the spec's worked examples and rules, which each
comment names. The `witness_…` theorems give, for each statement with hypotheses, a station and operands that
meet them, clause by clause.
-/

namespace Sys2Proof.Tests

open Sys2Proof Sys2Proof.Machine

/-! ### Small stations -/

/-- A setup record: 10 lockers, of which 9 and 10 are LARGE, and 6 cabins. -/
def setup : Setup :=
  { lockerCount := 10, largeCount := 2, dayCode := 212, sessionLimit := 120, doorWait := 15, pullTime := 60,
    holdDuty := 30, filterInterval := 4, cabinCount := 6, cabinLimit := 20, grace := 60, vacateTime := 10,
    walkPenalty := 60, margin := 30, initialDwell := 240 }

/-- Every door CLOSED, every bolt RETRACTED, every latch UNLATCHED, every pad absent. -/
def closed : Levels := { door := BitVec.allOnes 60, bolt := 0, latch := 0, pad := 0 }

def locker (n : Nat) (state : LockerState) (purpose : Option Purpose) (back : Option LockerState) : Locker :=
  { number := n, size := if n = 9 ∨ n = 10 then .large else .standard, state, wear := 88, purpose,
    returnState := back, forced := false, grantWait := none, doorWait := none, boltWait := none }

/-- SOLO parties 3 to 8 hold lockers 3 to 8. -/
def holding (n : Nat) : Holding :=
  { locker := n, party := ⟨.solo, BitVec.ofNat 24 n⟩, serial := BitVec.ofNat 24 n, start := 300, openings := 0,
    overstay := false, double := false, unannounced := false, recovered := false, forced := false }

def claim (n : Nat) (state : ClaimState) (frame : Option Nat) : Claim :=
  { party := ⟨.solo, BitVec.ofNat 24 n⟩, serial := BitVec.ofNat 24 n, locker := n, state, queueTime := 1000,
    insist := false, joined := 0, frame }

def cabin (n : Nat) (state : CabinState) : Cabin :=
  { number := n, state, latchPosition := .unlatched, latchTarget := none, presence := .clear, occupant := none,
    occupancy := 900, clearMoment := none, reservedFor := none, overstay := false, latchMoving := false,
    graceAt := none, admitAt := none, vacateAt := none, seconds := 0, unsettled := false }

def request (output : Nat) (purpose : DrivePurpose) (phase : DrivePhase) : DriveRequest :=
  { output, purpose, attempt := 1, phase }

def frame (id : Nat) (kind : Kind) (role : Role) (content : List Byte) : TxFrame :=
  { id, kind, content, owner := .claimUnit, role, queueTime := 1000, attempts := 0, onLine := false,
    withdrawn := false }

def entry (n : Nat) (state : EntryState) : QueueEntry :=
  { serial := BitVec.ofNat 24 n, party := ⟨.solo, BitVec.ofNat 24 n⟩, joined := 990, state, graceEnd := none,
    seconds := 10 }

def neighbour (station zone std wait queue : Nat) : Neighbour :=
  { station, zone, freeStandard := std, freeLarge := 1, queue, wait, mode := .run, driveHold := false,
    heardAt := 1000, aged := false, heard := true }

/-- A station in RUN at 1 000 ms: a locker and a cabin in each of their states, with nothing in flight. -/
def bank : Station :=
  { Station.reset with
    now := 1000
    lockers :=
      { Station.reset.lockers with
        minute := 421
        lockers :=
          [locker 1 .free none none, locker 2 .claiming none none,
           locker 3 .unbolting (some .first) (some .free), locker 4 .unbolted (some .retrieve) (some .locked),
           locker 5 .opened none none, locker 6 .locked none none, locker 7 .unsecured none none,
           locker 8 .jammed (some .retrieve) (some .locked), locker 9 .orphan none none,
           locker 10 .outOfService none none]
        holdings := [3, 4, 5, 6, 7, 8].map holding }
    claims.claims := [claim 2 .queued none]
    cabins :=
      { Station.reset.cabins with
        clock := 1000
        dwell := 260
        cabins :=
          [{ cabin 1 .occupied with occupant := some 101 },
           { cabin 2 .reserved with reservedFor := some 102, graceAt := some 60000, latchTarget := some .latched,
                                    latchMoving := true },
           { cabin 3 .admitting with reservedFor := some 103, admitAt := some 30000,
                                     latchTarget := some .unlatched },
           { cabin 4 .occupied with vacateAt := some 1000, clearMoment := some 990 },
           cabin 5 .outOfService, cabin 6 .fault]
        queue := [entry 102 (.reserved 2), entry 103 (.reserved 3), entry 104 .waiting] }
    drive.queue :=
      [request 2 (.bolt .first) (.pull 1 1060), request 3 (.bolt .retrieve) .hold,
       request 61 (.latch .latched) (.pull 2 1060)]
    scan :=
      { Station.reset.scan with
        switches := closed, history := [closed, closed, closed, closed], level := closed, loaded := true,
        sampleDue := 1004 }
    link.queue := []
    orders :=
      { Station.reset.orders with setup, lockersLockClosed := true, cabinsLockClosed := true }
    restart :=
      { Station.reset.restart with
        mode := .run, station := 4, zone := 2, strapPins := 4, holdDown := false, driveSupply := .high } }

/-- A station whose holdings are UNANNOUNCED; the walk stands at locker 5, and the claim of locker 3 is announced. -/
def walking : Station :=
  { bank with
    lockers.holdings := bank.lockers.holdings.map fun h => { h with unannounced := true }
    claims.announcements := [⟨3, 7⟩]
    claims.walk := some 5 }

/-- A station with a frame 7 on the line, thrice spoiled, between two that wait, and a count of successive losses. -/
def spoiling (kind : Kind) (role : Role) (losses : Nat) : Station :=
  { walking with
    link.queue :=
      [frame 1 .held .plain []] ++ { frame 7 kind role [] with onLine := true, attempts := 3 } ::
        [frame 12 .tally .plain []]
    link.losses := losses
    claims.announcements := [⟨6, 7⟩]
    orders.restartWait := if kind = .report then some ⟨7, 1500⟩ else none }

/-- A state with no command waiting. -/
def at' (s : Station) : State := { pending := [], station := s }

/-- The station that a command leaves. -/
def after (c : Instr) (s : Station) : Station :=
  match exec c (at' s) with
  | .next t => t.station
  | _ => s

/-- A tap by a SOLO band. -/
def tap (n : Nat) (size : Size) : Tap :=
  { serial := BitVec.ofNat 24 n, family := 0, party := ⟨.solo, BitVec.ofNat 24 n⟩, size, time := 1000 }

/-- An order from console 1 to every station. -/
def order (params : List Byte) : OrderFrame := { sender := 28, target := 0, params }

theorem bank_ready : bank.Ready := ⟨by decide, by decide, rfl⟩

theorem order_taken (params : List Byte) : bank.Takes (order params) := ⟨Nat.le_refl 28, .inl rfl, by decide⟩

/-! ### Terms that are no commands -/

theorem test_illFormed_reader : (Instr.readerBreak (.cabin 9)).wellFormed = false := by decide

theorem test_illFormed_character : (Instr.readerCharacter (.cabin 0) 0 true).wellFormed = false := by decide

theorem test_illFormed_timeout : (Instr.readerCharacterTimeout (.cabin 9)).wellFormed = false := by decide

/-- A band without a family belongs to the party SOLO of its own serial (R8). -/
theorem test_illFormed_tap :
    (Instr.lockerTap { tap 5 .large with party := ⟨.family, 5⟩ }).wellFormed = false ∧
      (Instr.cabinTap 1 { tap 5 .large with family := 3 }).wellFormed = false ∧
      (Instr.cabinTap 9 (tap 5 .large)).wellFormed = false := by decide

theorem test_illFormed_frame :
    (Instr.frameSpoiled [0] 0).wellFormed = false ∧
      (Instr.frameSpoiled (List.replicate 15 0) 0).wellFormed = false ∧
      ([Instr.frameDiscarded 9 .report, .heldReceived 9, .yieldReceived 9, .freeReceived 9, .claimReceived 9,
        .recountReceived 9, .recallReceived 9, .tallyReceived 9].map fun c =>
          (c (List.replicate 13 0)).wellFormed) = List.replicate 8 false := by decide

theorem test_illFormed_order_length :
    ([Instr.orderBadCode 0, .setupLockers, .setupCabins, .setDay, .openLocker, .endHolding, .lockerServiceOff,
      .lockerServiceOn, .cabinServiceOff, .cabinServiceOn, .clearFaultLocker, .clearFaultCabin,
      .clearFaultGroup, .takeCountersSnapshot, .readCounters, .readLocker, .readCabins, .findParty,
      .restart].map fun c => (c (order [0, 0, 0, 0, 0, 0, 0, 0, 0, 0])).wellFormed) =
      List.replicate 19 false := by decide

/-- An ORDER row's parameter bytes spell that row's order (R143). -/
theorem test_illFormed_selector :
    (Instr.orderBadCode 4 (order [])).wellFormed = false ∧
      (Instr.lockerServiceOff (order [5, 1])).wellFormed = false ∧
      (Instr.lockerServiceOn (order [5, 0])).wellFormed = false ∧
      (Instr.cabinServiceOff (order [5, 1])).wellFormed = false ∧
      (Instr.cabinServiceOn (order [5, 0])).wellFormed = false ∧
      (Instr.clearFaultLocker (order [1, 5])).wellFormed = false ∧
      (Instr.clearFaultCabin (order [0, 5])).wellFormed = false ∧
      (Instr.clearFaultGroup (order [0, 3])).wellFormed = false ∧
      (Instr.takeCountersSnapshot (order [1])).wellFormed = false ∧
      (Instr.readCounters (order [0])).wellFormed = false := by decide

theorem test_illFormed_numbers :
    ([Instr.neighbourStale 28, .grantWaitExpiry 61, .doorWaitExpiry 0, .boltWaitExpiry 61, .doorOpened 0,
      .doorClosed 61, .boltEvent 0 true, .pullEnd 68, .jamRestEnd 68, .slotRestEnd 5, .driveFault 4 true,
      .graceExpiry 9, .admitTimerExpiry 0, .vacateTimerExpiry 9, .presenceSeen 0, .presenceConfirmed 9,
      .presenceClear 9, .latchEvent 9 true].map Instr.wellFormed) = List.replicate 18 false := by decide

/-! ### The queue of commands, and reset -/

theorem test_no_word (w : Nat) : decodeTableWord 8 w = none := rfl

/-- A step on the empty queue takes the event that one block has handed to another, here a tap. -/
theorem test_step_delivery :
    (match step (at' { bank with deliveries := [.lockerTap (tap 6 .standard)] }) with
      | .next t => (t.station.deliveries, t.station.lockerState 6)
      | _ => ([], none)) = ([], some .unbolting) := by decide

/-- With nothing to take, the event of a timer that has come due is taken, here a sample instant; with none due a
millisecond passes. -/
theorem test_step_idle :
    let stepped (now : Moment) : Option (Moment × Moment) :=
      match step (at' { Station.reset with now }) with
      | .next t => some (t.station.now, t.station.scan.sampleDue)
      | _ => none
    stepped 7 = some (8, 8) ∧ stepped 8 = some (8, 16) := by decide

/-- A cold start after power was lost, with station strap 1, ends in the station of reset (R191, R193). -/
theorem test_cold_start : (Station.reset.coldStart .powerOn 1 0) = Station.reset := by decide

/-! ### Chapter 1: 1.8, band 40 117 of family 316 on day 212 -/

/-- The receiver of input B after seven characters of that band's record. -/
def reading (day : Byte) (guard : Option Sighting) : Station :=
  bank.changeInput .bank fun i =>
    { i with record := some [0x00, 0x9C, 0xB5, 0x01, 0x3C, 0x00, day], gapEnd := some 1010, guard }

/-- The row at 0 ms: a tap of FAMILY 316, STANDARD, to the locker table, and the guard entry. The check is 255
less the bytes' sum of 610, modulo 256 (R3). -/
theorem test_record_tap :
    let s := after (.readerCharacter .bank 157 true) (reading 212 none)
    s.deliveries = [.lockerTap { serial := 40117, family := 316, party := ⟨.family, 316⟩, size := .standard,
                                 time := 1000 }] ∧
      (s.input? .bank).map (·.guard) = some (some { serial := 40117, time := 1000 }) ∧
      s.taps.accepted = 1 ∧ s.taps.sinceRead = 1 ∧ s.taps.refused = 0 := by decide

/-- The row at 2 600 ms: a damaged copy is refused in silence, and the guard entry stands. -/
theorem test_record_damaged :
    let s := after (.readerCharacter .bank 158 true) (reading 212 (some { serial := 40117, time := 900 }))
    s.deliveries = [] ∧ s.taps.refused = 1 ∧ s.panel.message = none ∧
      (s.input? .bank).map (·.guard) = some (some { serial := 40117, time := 900 }) := by decide

/-- A record within 1 000 ms of the entry's is a repeat; 1 001 ms after it, a presentation (R4). -/
theorem test_record_repeat :
    (after (.readerCharacter .bank 157 true) (reading 212 (some { serial := 40117, time := 0 }))).deliveries = [] ∧
      (after (.readerCharacter .bank 157 true)
        { reading 212 (some { serial := 40117, time := 0 }) with now := 1001 }).deliveries.length = 1 := by
  decide

/-- Another day's band posts "BAND NOT VALID" and is counted (R7, R14). -/
theorem test_record_day :
    let s := after (.readerCharacter .bank 158 true) (reading 211 none)
    s.deliveries = [] ∧ s.taps.refused = 1 ∧ s.panel.message = some ⟨.bandNotValid, none⟩ := by decide

/-- A break within a record counts it once and opens a new one (R1). -/
theorem test_break :
    let s := after (.readerBreak .bank) (reading 212 none)
    (s.input? .bank).map (·.record) = some (some []) ∧ s.taps.refused = 1 := by decide

/-- R1, R192: in STRAP_FAULT the retained counter stands, and takes the partial record when the mode is left. -/
theorem test_break_strap_fault :
    let s := after (.readerBreak .bank) { reading 212 none with restart.mode := .strapFault, taps.refused := 7 }
    (s.input? .bank).map (·.record) = some (some []) ∧ s.taps.refused = 7 ∧ s.countHeld.taps.refused = 8 := by decide

theorem test_timeout :
    let s := after (.readerCharacterTimeout .bank) (reading 212 none)
    (s.input? .bank).map (·.record) = some none ∧ s.taps.refused = 1 ∧ s.now = 1011 := by decide

/-! ### Chapter 2: the choice of 2.5 and the holding of 2.13 -/

/-- The bank of 2.5: eight lockers with these wear counts; the door of locker 3 stands OPEN. -/
def choosing (states : List LockerState) : Station :=
  { bank with
    lockers.lockers :=
      (List.zip states [412, 380, 120, 395, 395, 10, 200, 150]).zipIdx.map fun x =>
        { locker (x.2 + 1) x.1.1 none none with
          size := if 6 ≤ x.2 then .large else .standard
          wear := x.1.2 }
    scan.level.door := 0xFB }

/-- The first tap takes locker 4, a LARGE one locker 7, the third locker 5, and when 1 and 5 are gone too there is
none. -/
theorem test_choice :
    ((choosing [.free, .locked, .free, .free, .free, .outOfService, .free, .claiming]).chooseLocker
      .standard).map (·.number) = some 4 := by decide

theorem test_choice_large :
    ((choosing [.free, .locked, .free, .claiming, .free, .outOfService, .free, .claiming]).chooseLocker
        .large).map (·.number) = some 7 ∧
      ((choosing [.free, .locked, .free, .claiming, .free, .outOfService, .claiming, .claiming]).chooseLocker
        .standard).map (·.number) = some 5 ∧
      ((choosing [.claiming, .locked, .free, .claiming, .claiming, .outOfService, .claiming,
        .claiming]).chooseLocker .standard).map (·.number) = none := by decide

/-- 2.13 at 0.0 s: the claim, "LOCKER 01", the cursor and the CLAIM frame. -/
theorem test_tap_claims :
    let s := after (.lockerTap (tap 50 .standard)) bank
    s.lockerState 1 = some .claiming ∧ s.claims.claims.length = 2 ∧ s.panel.cursor = some 1 ∧
      s.panel.message = some ⟨.locker 1, none⟩ ∧
      s.link.queue.map (fun f => (f.kind, f.content)) = [(.claim, [1, 0, 0, 50, 1, 0, 0, 50, 0])] := by decide

/-- 2.13 at 0.5 s: confirmed, the locker is driven under FIRST, and the grant wait runs 15 s. -/
theorem test_confirmed :
    let s := after (.claimWindowEnd ⟨.solo, 2⟩) { bank with claims.claims := [claim 2 (.sent 1400) none] }
    (s.locker? 2).map (fun l => (l.state, l.purpose, l.returnState, l.grantWait)) =
        some (.unbolting, some .first, some .free, some 16400) ∧
      (s.holdingAt 2).map (fun h => (h.start, h.openings)) = some (421, 0) ∧
      s.claims.confirmed = 1 ∧ (s.request? 1).map (·.phase) = some (.pull 3 1460) := by decide

/-- 2.13 at 0.6 s: the pull ends with the bolt RETRACTED: wear 88 becomes 89, the door wait runs 15 s, the output
goes to hold duty and slot 1 rests 20 ms. -/
theorem test_pull_reached :
    let s := after (.pullEnd 2) bank
    (s.locker? 3).map (fun l => (l.state, l.wear, l.doorWait)) = some (.unbolted, 89, some 16060) ∧
      s.outputLevel 2 = .holdDuty ∧ s.drive.slots.map (·.restUntil) = [some 1080, none, none, none] := by decide

/-- 2.13 at 3.2 s: the door opens: OPEN, one opening more, the drive ended. -/
theorem test_door_taken :
    let s := after (.doorOpened 4) bank
    s.lockerState 4 = some .opened ∧ (s.holdingAt 4).map (·.openings) = some 1 ∧ s.request? 3 = none := by decide

/-- 2.13 at 40.0 s: the door closes with the bolt ENGAGED. -/
theorem test_door_locked :
    (after (.doorClosed 5) { bank with scan.level.bolt := 0x10 }).lockerState 5 = some .locked := by decide

/-- 9.7 at 116 ms: the door closes with the bolt RETRACTED: the locker stays OPEN for 2 s. -/
theorem test_door_waits :
    ((after (.doorClosed 5) bank).locker? 5).map (fun l => (l.state, l.boltWait)) =
      some (.opened, some 3000) := by decide

/-- 9.7 at 128 ms: the bolt engages: LOCKED, the wait cancelled and the forced mark cleared. -/
theorem test_bolt_locks :
    ((after (.boltEvent 5 true) (bank.changeLocker 5 fun l =>
      { l with boltWait := some 3000, forced := true })).locker? 5).map
        (fun l => (l.state, l.boltWait, l.forced)) = some (.locked, none, false) := by decide

/-- R37: the bolt wait ends with the bolt RETRACTED. -/
theorem test_unsecured :
    (after (.boltWaitExpiry 6) (bank.changeLocker 6 fun l => { l with boltWait := some 3000 })).lockerState 6 =
      some .unsecured := by decide

/-- 2.13: at minute 421 the elapsed 121 minutes exceed the limit of 120; at 420 they did not (R23). -/
theorem test_overstay :
    ((after .minuteTick { bank with lockers.minute := 420 }).holdingAt 6).map (·.overstay) = some true ∧
      ((after .minuteTick { bank with lockers.minute := 419 }).holdingAt 6).map (·.overstay) = some false := by
  decide

/-- 2.13 at minute 425: the retrieval. -/
theorem test_retrieval :
    let s := after (.lockerTap (tap 6 .standard)) bank
    (s.locker? 6).map (fun l => (l.state, l.purpose, l.returnState)) =
        some (.unbolting, some .retrieve, some .locked) ∧
      s.panel.message = some ⟨.locker 6, none⟩ ∧ s.panel.cursor = some 6 := by decide

/-- R26: a tap of the party of an OPEN locker releases it, with a FREE frame. -/
theorem test_release :
    let s := after (.lockerTap (tap 5 .standard)) bank
    s.lockerState 5 = some .free ∧ s.holdingAt 5 = none ∧
      s.link.queue.map (fun f => (f.kind, f.content)) = [(.free, [1, 0, 0, 5, 5])] := by decide

/-- R34: the grant wait ends the holding of a locker that was never unbolted. -/
theorem test_grant_wait :
    let s := after (.grantWaitExpiry 3) (bank.changeLocker 3 fun l => { l with grantWait := some 16000 })
    s.lockerState 3 = some .free ∧ s.holdingAt 3 = none ∧ s.request? 2 = none := by decide

/-- R35: an untaken RETRIEVE goes back to LOCKED. -/
theorem test_door_wait :
    let s := after (.doorWaitExpiry 4) (bank.changeLocker 4 fun l => { l with doorWait := some 16000 })
    s.lockerState 4 = some .locked ∧ s.request? 3 = none ∧ (s.holdingAt 4).isSome = true := by decide

/-! ### Chapters 3 and 4: the race of 3.11 and the RECALL of 4.6 -/

/-- FAMILY 316's claim at bank 9, locker 1, with its CLAIM frame 7 in the queue. -/
def racing (state : ClaimState) : Station :=
  { bank with
    restart.station := 9
    claims.claims :=
      [{ party := ⟨.family, 316⟩, serial := 40118, locker := 2, state, queueTime := 1000, insist := false,
         joined := 0, frame := some 7 }]
    link.queue := if state = .queued then [frame 7 .claim .claim []] else [] }

/-- The CLAIM of bank 4 for FAMILY 316 at locker 17, band 40 117 (R143). -/
def peerClaim : List Byte := [0, 0, 1, 60, 17, 0, 156, 181, 0]

/-- 3.11 at 5 ms: bank 9's QUEUED claim is withdrawn and fails; the directory holds the party. -/
theorem test_race_lost :
    let s := after (.claimReceived 4 peerClaim) (racing .queued)
    s.claims.claims = [] ∧ s.link.queue = [] ∧ s.lockerState 2 = some .free ∧
      s.panel.message = some ⟨.goToBank 4 17, none⟩ ∧ s.claims.failed = 1 ∧
      s.directory.cache.map (fun e => (e.holder, e.locker, e.serial)) = [(4, 17, 40117)] ∧
      s.directory.redirects = [{ serial := 40118, moment := 1000 }] := by decide

/-- 3.11 at 8 002 ms: a HELD for the SENT claim: it fails, and a YIELD names its own locker. -/
theorem test_claim_yields :
    let s := after (.heldReceived 4 [0, 0, 1, 60, 17, 9]) (racing (.sent 1400))
    s.claims.claims = [] ∧ s.claims.yielded = 1 ∧ s.panel.message = some ⟨.goToBank 4 17, none⟩ ∧
      s.link.queue.map (fun f => (f.kind, f.content)) = [(.yield, [0, 0, 1, 60, 2])] := by decide

/-- R63, R56: on a DOWN link the HELD fails the SENT claim without a YIELD, and a peer's CLAIM draws no HELD. -/
theorem test_link_down_frames :
    let s := after (.heldReceived 4 [0, 0, 1, 60, 17, 9]) { racing (.sent 1400) with link.up := false }
    s.claims.claims = [] ∧ s.claims.yielded = 1 ∧ s.link.queue = [] ∧ s.link.framesLost = 0 ∧
      (after (.claimReceived 4 peerClaim) { racing (.sent 1400) with link.up := false }).link.queue = [] := by
  decide

/-- 3.11 at 5 ms, bank 4: the CLAIM delivered opens the window to 400 ms later. -/
theorem test_claim_sent :
    (after .ownFrameDelivered { racing .queued with
      link.queue := [{ frame 7 .claim .claim [] with onLine := true }] }).claims.claims.map (·.state) =
      [.sent 1400] := by decide

/-- 3.11 at 150 ms: the joined band. -/
theorem test_joined :
    let s := after (.lockerTap { tap 40119 .standard with family := 316, party := ⟨.family, 316⟩ })
      (racing (.sent 1400))
    s.claims.claims.map (·.joined) = [1] ∧ s.panel.message = some ⟨.lockerOpening 2, none⟩ := by decide

/-- R52: the send deadline of a QUEUED claim. -/
theorem test_deadline :
    let s := after (.claimSendDeadline ⟨.family, 316⟩) (racing .queued)
    s.claims.claims = [] ∧ s.now = 2000 ∧ s.panel.message = some ⟨.linkBusy, none⟩ ∧ s.link.queue = [] := by decide

/-- 3.11, the insist tap 7 995 ms after the redirect: a claim that marks the entry doubtful. -/
def redirected : Station :=
  { bank with
    now := 8000
    restart.station := 9
    directory.cache :=
      [{ party := ⟨.family, 316⟩, holder := 4, locker := 17, serial := 40117, doubtful := false,
         recountDue := false }]
    directory.redirects := [{ serial := 40118, moment := 5 }] }

theorem test_insist :
    let s := after (.lockerTap { tap 40118 .standard with
      family := 316, party := ⟨.family, 316⟩, time := 8000 }) redirected
    s.directory.cache.map (·.doubtful) = [true] ∧ s.claims.claims.map (·.insist) = [false, true] := by decide

/-- A tap 2 999 ms after the redirect is redirected again (R79). -/
theorem test_redirect :
    let s := after (.lockerTap { tap 40118 .standard with
      family := 316, party := ⟨.family, 316⟩, time := 3004 }) redirected
    s.panel.message = some ⟨.goToBank 4 17, none⟩ ∧ s.claims.claims.length = 1 ∧
      s.directory.redirects = [{ serial := 40118, moment := 3004 }] := by decide

/-- 4.6, steps 1 and 2: of three entries that name the recaller two RECOUNTs are queued; the third waits. -/
theorem test_recall :
    let fact (n l : Nat) : DirectoryEntry :=
      { party := ⟨.family, BitVec.ofNat 24 n⟩, holder := 11, locker := l, serial := BitVec.ofNat 24 n,
        doubtful := false, recountDue := false }
    let s := after (.recallReceived 11 []) { bank with directory.cache := [fact 4410 3, fact 902 14, fact 8 5] }
    s.directory.cache.map (·.recountDue) = [false, false, true] ∧ s.directory.recounts = 2 ∧
      s.link.queue.map (·.content) =
        [[11, 0, 0, 17, 58, 3, 0, 17, 58], [11, 0, 0, 3, 134, 14, 0, 3, 134]] := by decide

/-- R77: a YIELD and a FREE delete an entry that names their sender, and no other. -/
theorem test_yield_free :
    (after (.yieldReceived 4 [0, 0, 1, 60, 17]) redirected).directory.cache = [] ∧
      (after (.freeReceived 5 [0, 0, 1, 60, 17]) redirected).directory.cache.length = 1 := by decide

/-- R198: the first RECOUNT that names an ORPHAN locker here rebuilds its holding. -/
theorem test_rebuild :
    let s := after (.recountReceived 11 [4, 0, 0, 1, 60, 9, 0, 156, 181]) bank
    s.lockerState 9 = some .locked ∧
      (s.holdingAt 9).map (fun h => (h.party, h.serial, h.recovered, h.start)) =
        some (⟨.family, 316⟩, 40117, true, 421) := by decide

/-- R78: the redirect record goes after 30 s. -/
theorem test_redirect_expires :
    (after (.redirectRecordExpiry 40118) redirected).directory.redirects = [] := by decide

/-! ### Chapter 5: the busy spell of 5.10 -/

/-- 5.10 at 1 000: the vacate timer of cabin 4 expires; dwell 90 s from 900 to 990, so D goes from 260 by -170 ÷ 8
to 239; the cabin is RESERVED for the oldest WAITING entry, with grace end 1 060 and a LATCHED request. -/
theorem test_vacate :
    let s := after (.vacateTimerExpiry 4) bank
    s.cabins.dwell = 239 ∧
      (s.cabin? 4).map (fun c => (c.state, c.reservedFor, c.latchMoving)) = some (.reserved, some 104, true) ∧
      (s.queueEntry 104).map (fun e => (e.state, e.graceEnd)) = some (.reserved 4, some 1060) ∧
      s.panel.message = some ⟨.cabinReady 4, none⟩ ∧
      (s.request? 63).map (·.purpose) = some (.latch .latched) := by decide

/-- 5.10 at 1 015: a new arrival joins the queue and is told its place. -/
theorem test_joins :
    let s := after (.cabinTap 1 (tap 105 .standard)) bank
    s.cabins.queue.map (·.serial) = [102, 103, 104, 105] ∧
      s.panel.message = some ⟨.queueAbout 4 5, none⟩ := by decide

/-- 5.10 at 1 030: the band admitted at its cabin's reader: ADMITTING for 30 s, "CABIN 2 – ENTER". The LATCHED
pulse under way runs on (R88). -/
theorem test_admitting :
    let s := after (.cabinTap 2 (tap 102 .standard)) bank
    (s.cabin? 2).map (fun c => (c.state, c.admitAt, c.latchTarget)) =
        some (.admitting, some 31000, some .unlatched) ∧
      s.panel.message = some ⟨.cabinEnter 2, none⟩ ∧
      (s.request? 61).map (·.phase) = some (.pull 2 1060) := by decide

/-- 5.10 at 1 036: the admission: the entry leaves the queue and its band is the occupant. -/
theorem test_admission :
    let s := after (.presenceConfirmed 3) (bank.changePad 3 fun p =>
      { p with presence := .seen, confirmAt := some 1000 })
    (s.cabin? 3).map (fun c => (c.state, c.occupant, c.occupancy)) = some (.occupied, some 103, 1000) ∧
      s.cabins.queue.map (·.serial) = [102, 104] := by decide

/-- R99: the grace expires: the miss is counted, and the cabin serves the next entry. -/
theorem test_grace :
    let s := after (.graceExpiry 2) bank
    s.cabins.missed = 1 ∧ (s.cabin? 2).bind (·.reservedFor) = some 104 ∧
      s.cabins.queue.map (·.serial) = [103, 104] := by decide

/-- R100: the admit timer expires. -/
theorem test_admit_timer :
    let s := after (.admitTimerExpiry 3) bank
    s.cabins.missed = 0 ∧ (s.cabin? 3).bind (·.reservedFor) = some 104 := by decide

/-- R90: a jammed latch: FAULT, and the entry goes back to its place. -/
theorem test_latch_jam :
    let s := after (.pullEnd 61) { bank with
      drive.queue := [{ request 61 (.latch .latched) (.pull 2 1060) with attempt := 3 }] }
    s.cabinState 2 = some .fault ∧ s.drive.jams = 1 ∧
      (s.queueEntry 102).map (·.state) = some .waiting := by decide

/-- 9.8 at 8 012 and 5 012 ms: back on the pad, and off it. -/
theorem test_pad :
    let pads (p : Presence) : Station := bank.changePad 4 fun q => { q with presence := p }
    ((after (.presenceSeen 4) (pads .clear)).cabin? 4).map (fun c => (c.presence, c.vacateAt, c.clearMoment)) =
        some (.seen, none, none) ∧
      ((after (.presenceClear 4) (pads .confirmed)).cabin? 4).map
        (fun c => (c.presence, c.vacateAt, c.clearMoment)) = some (.clear, some 11000, some 1000) := by decide

/-- R89: a latch that moves of itself is pulsed back. -/
theorem test_latch_moves :
    ((after (.latchEvent 3 true) bank).request? 62).map (·.purpose) = some (.latch .unlatched) := by decide

/-- R96: an occupancy of 1 201 s exceeds a limit of 20 minutes, one of 1 200 s does not. -/
theorem test_cabin_overstay :
    ((after .cabinClockTick { bank with cabins.clock := 2100 }).cabin? 1).map (·.overstay) = some true ∧
      ((after .cabinClockTick { bank with cabins.clock := 2099 }).cabin? 1).map (·.overstay) = some false := by
  decide

/-! ### Chapter 6: the table of R116, and the worked cases 6.7 and 6.8 -/

theorem test_dwell :
    [dwellUpdate 240 400, dwellUpdate 260 100, dwellUpdate 240 245, dwellUpdate 240 233, dwellUpdate 240 232,
      dwellUpdate 30 0, dwellUpdate 1800 1800] = [260, 240, 240, 240, 239, 27, 1800] := by decide

/-- 6.7: bank 4 in zone 1, with six OCCUPIED cabins and four entries ahead. -/
def fullCabins (wait9 wait12 : Nat) : Station :=
  { bank with
    restart.zone := 1
    cabins.cabins := (List.range 6).map fun i => cabin (i + 1) .occupied
    cabins.queue := [1, 2, 3, 4].map fun n => entry n .waiting
    tally.neighbours :=
      [{ neighbour 2 1 0 0 0 with aged := true }, { neighbour 7 1 0 0 0 with mode := .recovering },
       neighbour 9 3 0 wait9 0, neighbour 12 1 0 wait12 0, neighbour 15 2 0 65535 0] }

/-- W is 217 s, "ABOUT 04 MIN", and bank 12 costs 150 s. -/
theorem test_suggestion :
    (after (.cabinTap 3 (tap 50 .standard)) (fullCabins 60 150)).panel.message =
        some ⟨.queueAbout 5 4, some (.cabinsFaster 12)⟩ ∧
      (fullCabins 60 150).waitEstimate 4 = 217 := by decide

/-- 187 + 30 is not less than 217: no suggestion. -/
theorem test_no_suggestion :
    (after (.cabinTap 3 (tap 50 .standard)) (fullCabins 127 187)).panel.message =
      some ⟨.queueAbout 5 4, none⟩ := by decide

/-- R124: of two banks one zone away the one with more free lockers, nearer than one with more still. -/
theorem test_guidance :
    ({ bank with
      restart.zone := 1
      tally.neighbours :=
        [neighbour 3 2 5 0 0, { neighbour 6 0 5 0 0 with aged := true }, neighbour 9 3 20 0 0,
         neighbour 10 2 8 0 0] } : Station).guidance .standard = .noLockerHere 10 := by decide

/-- 6.7: the TALLY's figures, and the time of the next. -/
theorem test_tally :
    let s := after .tallyTimer (fullCabins 60 150)
    s.link.queue.map (·.content) = [[1, 1, 0, 4, 0, 217, 2, 0]] ∧ s.tally.timer = some 4000 := by decide

/-- R114: a TALLY of bank 9; one with 61 lockers is ignored. -/
theorem test_tally_received :
    ((after (.tallyReceived 9 [3, 20, 4, 16, 119, 136, 2, 1]) (fullCabins 60 150)).neighbour? 9).map
        (fun n => (n.freeStandard, n.wait, n.driveHold, n.heardAt)) = some (20, 30600, true, 1000) ∧
      ((after (.tallyReceived 9 [3, 57, 4, 16, 0, 0, 2, 0]) (fullCabins 60 150)).neighbour? 9).map (·.wait) =
        some 60 := by decide

theorem test_stale :
    ((after (.neighbourStale 9) (fullCabins 60 150)).neighbour? 9).map (·.stale) = some true := by decide

/-! ### Chapter 7: the queue of 7.8 -/

/-- The check of R127 over the digits 1 to 9 in ASCII, the customary test word of this generator with a register
of ones. -/
theorem test_check : frameCheck [0x31, 0x32, 0x33, 0x34, 0x35, 0x36, 0x37, 0x38, 0x39] = 0x29B1 := by
  set_option maxRecDepth 20000 in decide

/-- 7.8 at 135 ms, twelve frames: a RECOUNT evicts the TALLY and stands behind the older RECOUNT. -/
def crowded : Station :=
  { bank with
    link.queue :=
      frame 1 .held .plain [] :: (frame 2 .free .plain [] ::
        ([3, 4, 5, 6, 7, 8].map fun n => frame n .claim .claim [])) ++
        [frame 9 .recount .plain [], frame 10 .report .plain [], frame 11 .report .plain [],
         { frame 12 .tally .plain [] with queueTime := 1001 }]
    link.nextFrame := 13 }

theorem test_evicts :
    let s := crowded.offer .recount [] .directory .plain
    s.link.queue.map (·.id) = [1, 2, 3, 4, 5, 6, 7, 8, 9, 13, 10, 11] ∧ s.link.framesLost = 1 := by decide

/-- 7.8 at 140 ms: a TALLY finds no kind code above 7. -/
theorem test_dropped :
    let s := ({ crowded with link.queue := crowded.link.queue.map fun f => { f with kind := .claim } } : Station)
      |>.offer .tally [] .tallyUnit .plain
    s.link.queue.length = 12 ∧ s.link.framesLost = 1 := by decide

/-- 7.8 at 142 to 144 ms: the HELD contends, is spoiled, and is delivered. -/
theorem test_attempts :
    ((after .frameAttemptStart crowded).frameOnLine).map (·.id) = some 1 ∧
      ((after .attemptSpoiled (after .frameAttemptStart crowded)).link.queue.map fun f => (f.id, f.attempts)).head? =
        some (1, 1) ∧
      ((after .ownFrameDelivered (after .frameAttemptStart crowded)).link.queue.map (·.id)).head? = some 2 := by
  decide

/-- R128, R129: a lost arbitration is no attempt; a bit error is one. -/
theorem test_arbitration :
    ((after .arbitrationLost (after .frameAttemptStart crowded)).link.queue.map fun f =>
        (f.id, f.attempts)).head? = some (1, 0) ∧
      ((after .bitError (after .frameAttemptStart crowded)).link.queue.map fun f =>
        (f.id, f.attempts)).head? = some (1, 1) := by decide

/-- R130: a check that differs is answered in the spoil slot; here of a RECALL of bank 1, worked by hand. -/
theorem test_spoils :
    (let good := after (.frameSpoiled [0xA1, 0x00] 0x3340) bank
     good.link.spoilsDriven = 0 ∧ good.driven = []) ∧
      (let bad := after (.frameSpoiled [0xA1, 0x00] 0x3341) bank
       bad.link.spoilsDriven = 1 ∧ bad.driven = [.dominant] ∧
         (after .frameAttemptStart bad).link.spoilSlot = .recessive) := by
  set_option maxRecDepth 20000 in decide

/-- R126: byte A1h on the line: a start bit, the data bits with the most significant first, 0 dominant, a stop bit. -/
theorem test_byte_levels :
    byteLevels 0xA1 =
      [.dominant, .recessive, .dominant, .recessive, .dominant, .dominant, .dominant, .dominant, .recessive,
       .recessive] := by decide

/-- R139, R62: DOWN empties the queue, counts what was not a CLAIM, and confirms a QUEUED claim. -/
theorem test_link_down :
    let s := after .dominantWatchExpiry { racing .queued with
      link.queue := [frame 1 .held .plain [], frame 7 .claim .claim []] }
    s.link.up = false ∧ s.link.queue = [] ∧ s.link.framesLost = 1 ∧ s.claims.claims = [] ∧
      (s.holdingAt 2).map (·.unannounced) = some true := by decide

/-- R62, R64, R139: two QUEUED claims and an announcement in the queue: the claims are confirmed, the announcement
waits for the next walk. -/
theorem test_link_down_claims :
    let s := after .dominantWatchExpiry { walking with
      claims.claims := [claim 1 .queued (some 5), claim 2 .queued (some 6)]
      link.queue := [frame 5 .claim .claim [], frame 6 .claim .claim [], frame 7 .claim (.announcement 3) []] }
    s.claims.claims = [] ∧ s.claims.confirmed = 2 ∧ s.claims.announcements = [] ∧ s.claims.walk = none ∧
      s.link.framesLost = 0 ∧ (s.lockers.holdings.filter (·.unannounced)).length = 8 := by decide

/-- R141, R64: after a recessive span a delivered frame brings the link UP, and the holding is announced. -/
theorem test_link_up :
    let s := after (.frameDiscarded 9 .report [])
      (after .recessiveSpan (({ bank with link.up := false } : Station).changeHolding 6 fun h =>
        { h with unannounced := true }))
    s.link.up = true ∧
      s.link.queue.map (fun f => (f.role, f.content)) = [(.announcement 6, [1, 0, 0, 6, 6, 0, 0, 6, 0])] := by
  decide

/-! ### Chapter 8: the burst of 8.9 -/

/-- The seven requests of 8.9 at time 0. -/
def burst : Station :=
  { bank with
    now := 0
    drive.queue :=
      [request 2 (.bolt .first) .waiting, request 7 (.bolt .retrieve) .waiting,
       request 11 (.bolt .first) .waiting, request 19 (.bolt .retrieve) .waiting,
       request 20 (.bolt .retrieve) .waiting, request 39 (.bolt .first) .waiting,
       request 61 (.latch .unlatched) .waiting]
    scan.level.latch := 2 }

/-- At 0: grants in queue order, four of them, to 60 ms. -/
theorem test_grants :
    burst.grantTest.drive.queue.map (·.phase) =
      [.pull 1 60, .pull 2 60, .pull 3 60, .pull 4 60, .waiting, .waiting, .waiting] := by decide

/-- Locker 12 at attempt 1: REST to 260; at 260 attempt 2, and a pull of 90 ms; at attempt 3 of 120 ms. -/
theorem test_jam_rests :
    (((after (.pullEnd 11) { burst.grantTest with scan.level.bolt := 0x800 }).request? 11).map (·.phase) =
        some (.rest 260)) ∧
      ((after (.jamRestEnd 11) { burst with
        drive.queue := [request 11 (.bolt .first) (.rest 260)] }).drive.queue.map
          fun r => (r.attempt, r.phase)) = [(2, .pull 1 350)] ∧
      ((after (.jamRestEnd 11) { burst with
        drive.queue := [{ request 11 (.bolt .first) (.rest 550) with attempt := 2 }] }).drive.queue.map
          fun r => (r.attempt, r.phase)) = [(3, .pull 1 670)] := by decide

/-- At 670: JAMMED, with "SEE ATTENDANT". -/
theorem test_jam :
    let s := after (.pullEnd 2) { bank with
      drive.queue := [{ request 2 (.bolt .first) (.pull 1 1060) with attempt := 3 }]
      scan.level.bolt := 4 }
    s.lockerState 3 = some .jammed ∧ s.drive.jams = 1 ∧ s.panel.message = some ⟨.seeAttendant, none⟩ ∧
      s.drive.queue = [] := by decide

/-- R34, R152: locker 3 after its grant wait, and then the end of its pull at 1060, are taken in this order. A pull
that ended just before the wait adds to the wear of the locker now FREE; at the same moment it is cut short, and no
wear is added. Its slot rests from its end, or from the expiry. -/
theorem test_late_report :
    let s (wait : Moment) := after (.pullEnd 2) (after (.grantWaitExpiry 3) (bank.changeLocker 3 fun l =>
      { l with grantWait := some wait }))
    ([1061, 1060, 1059].map fun w =>
        (((s w).locker? 3).map fun l => (l.state, l.wear), (s w).request? 2,
          (s w).drive.slots.head?.map (·.restUntil))) =
      [(some (.free, 89), none, some (some 1080)), (some (.free, 88), none, some (some 1080)),
        (some (.free, 88), none, some (some 1079))] := by decide

/-- R152: a third attempt whose bolt stays ENGAGED jams where it ended before the grant wait, and not at a tie. -/
theorem test_tie_no_jam :
    let s (wait : Moment) := after (.grantWaitExpiry 3) { (bank.changeLocker 3 fun l =>
        { l with grantWait := some wait }) with
      drive.queue := [{ request 2 (.bolt .first) (.pull 1 1060) with attempt := 3 }]
      scan.level.bolt := 4 }
    ([1061, 1060].map fun w => ((s w).drive.jams, (s w).drive.late)) = [(1, [2]), (0, [])] := by decide

/-- At 80: a slot's rest ends, and the next request takes it. -/
theorem test_slot_rest :
    ((after (.slotRestEnd 2) { burst with
      drive.queue := [request 20 (.bolt .retrieve) .waiting]
      drive.slots := [⟨1, some 90⟩, ⟨2, some 80⟩, ⟨3, some 90⟩, ⟨4, some 90⟩] }).request? 20).map (·.phase) =
      some (.pull 2 140) := by decide

/-- At 150: a fault of group 0 aborts the hold of locker 4's RETRIEVE, which is settled LOCKED, and the pull of
locker 3 waits again while its slot rests. -/
theorem test_drive_fault :
    let s := after (.driveFault 0 true) bank
    s.drive.latches = 1 ∧ s.lockerState 4 = some .locked ∧ (s.request? 2).map (·.phase) = some .waiting ∧
      s.drive.slots.map (·.restUntil) = [some 1020, none, none, none] := by decide

/-- 8.9, the supply dip: hold-down aborts the latch's pull too. -/
theorem test_supply_low :
    let s := after .driveSupplyLow bank
    s.restart.holdDown = true ∧ s.drive.queue.map (fun r => (r.output, r.phase)) =
      [(2, .waiting), (61, .waiting)] := by decide

/-- R194: the release timer of 100 ms starts above 21.5 V and is cancelled below. -/
theorem test_supply_rise :
    let low := after .driveSupplyLow bank
    (after .driveSupplyRise low).restart.releaseAt = some 1100 ∧
      (after .driveSupplySag (after .driveSupplyRise low)).restart.releaseAt = none := by decide

/-- 8.9: when hold-down ends, the queue's order takes the slots. -/
theorem test_holdDown_release :
    let s := after .holdDownRelease { burst with restart.holdDown := true, restart.releaseAt := some 100 }
    s.restart.holdDown = false ∧ (s.request? 19).map (·.phase) = some (.pull 4 160) := by decide

/-! ### Chapter 9: filters -/

/-- 9.7 at 116 ms: three CLOSED samples of four change the door's level; two of four, at 112 ms, did not. -/
theorem test_filter :
    let opened : Levels := { closed with door := closed.door &&& ~~~0x10 }
    let sampled (history : List Levels) : Station :=
      after (.senseSample closed) { bank with scan.history := history, scan.level := opened }
    (sampled [opened, closed, opened, opened]).doorClosed 5 = false ∧
      (sampled [closed, opened, closed, opened]).doorClosed 5 = true ∧
      ((sampled [closed, opened, closed, opened]).locker? 5).map (·.boltWait) = some (some 3004) ∧
      (sampled [closed, opened, closed, opened]).scan.sampleDue = 1008 := by decide

/-- R165: a tie of a filter load goes to the last sample, and a present pad is CONFIRMED. -/
theorem test_filter_load :
    let on : Levels := { closed with pad := 1 }
    let s := after .filterLoadEnd { bank with
      scan.loaded := false, scan.level := Levels.none, scan.history := [on, on, closed, closed] }
    s.scan.loaded = true ∧ s.presence 1 = .confirmed ∧ s.doorClosed 1 = true ∧ s.boltEngaged 1 = false := by
  decide

/-! ### Chapter 10: the line of 10.7, and the cells -/

/-- 10.7: "NO LOCKER FREE HERE – BANK 10" at scroll positions 0, 5 and 8. -/
theorem test_scroll :
    Text.window (.noLockerHere 10) 0 = "NO LOCKER FREE HERE – BA".toList ∧
      Text.window (.noLockerHere 10) 5 = "CKER FREE HERE – BANK 10".toList ∧
      Text.window (.noLockerHere 10) 8 = "R FREE HERE – BANK 10   ".toList := by decide

/-- 10.7: the 33rd step of the scroll returns to position 0; every twelfth frame makes a step. -/
theorem test_scroll_step :
    let shown := bank.post (.noLockerHere 10)
    (after .scrollStep { shown with panel.scroll := 32 }).panel.scroll = 0 ∧
      (after .panelFrame { shown with panel.stepCount := 11 }).panel.scroll = 1 ∧
      (after .panelFrame { shown with panel.stepCount := 10 }).panel.scroll = 0 := by decide

/-- R175: a step returns the scroll step count to 0, so the frame that follows it makes no second step. -/
theorem test_scroll_count :
    let stepped := after .scrollStep { bank.post (.noLockerHere 10) with panel.stepCount := 11 }
    stepped.panel.scroll = 1 ∧ stepped.panel.stepCount = 0 ∧ (after .panelFrame stepped).panel.scroll = 1 := by decide

/-- R188: 60 s before its grace end an entry reports 60, at the grace end 0, across the clock's wrap too. -/
theorem test_grace_seconds :
    secondsToGrace 1060 1000 = 60 ∧ secondsToGrace 1060 1060 = 0 ∧ secondsToGrace 10 65486 = 60 := by
  decide

/-- 10.7: the idle line: locker 1 FREE and closed, no cabin FREE; the hold ends with it. -/
theorem test_idle_line :
    (after .messageHoldExpiry (bank.post .tryAgain)).panel.line = "FREE 01 STD 00 LRG CAB 0".toList := by decide

/-- R174: after 2 s the second text has its turn. -/
theorem test_pair :
    (after .pairTurn (bank.postMessage ⟨.cabinQueueFull, some (.cabinsFaster 12)⟩)).panel.line =
      "CABINS FASTER AT BANK 12".toList := by decide

/-- R174: three changes of turn, the last at 6 s, and then the hold ends: a further one has no effect. -/
theorem test_pair_ends :
    let third := after .pairTurn (after .pairTurn (after .pairTurn
      (bank.postMessage ⟨.cabinQueueFull, some (.cabinsFaster 12)⟩)))
    (third.now, third.panel.secondTurn, third.panel.turnEnd, third.panel.holdEnd) =
        (7000, true, none, some 9000) ∧
      (after .pairTurn third).panel.line = "CABINS FASTER AT BANK 12".toList := by decide

/-- 10.7: a CLAIMING cell under the cursor: amber in frame 1, dark in frame 16. -/
theorem test_cells :
    let s := bank.placeCursor 2
    (after .panelFrame s).panel.cells[1]? = some .amber ∧
      (after .panelFrame { s with panel.frame := 15 }).panel.cells[1]? = some .dark ∧
      ((after .panelFrame s).panel.cells.take 10) =
        [.green, .amber, .green, .green, .green, .red, .amber, .amber, .red, .dark] := by decide

/-- R167: the twelve strobes of a frame, of which the third drives row 2 with the green colour line, and the last row
6 with the red. Cells 14 and 61 to 65: one beyond the locker count and five cabins. -/
theorem test_strobes :
    let strobes := (after .panelFrame bank).panel.strobes
    strobes.length = 12 ∧
      strobes[2]? = some
        { rows := [false, true, false, false, false, false], greenLine := true, redLine := false,
          columns := List.replicate 12 false } ∧
      strobes[11]?.map (fun x => (x.rows, x.greenLine, x.redLine, x.columns.take 6)) = some
        ([false, false, false, false, false, true], false, true, [true, false, false, true, false, true]) := by
  decide

/-- R178, R192: in STRAP_FAULT a frame shows every cell dark. -/
theorem test_frame_strap_fault :
    let s := after .panelFrame { bank with restart.mode := .strapFault }
    s.panel.frame = 1 ∧ s.panel.cells = List.replicate 72 .dark ∧ s.panel.line = bank.panel.line := by decide

theorem test_cursor_timer : (after .cursorTimerExpiry (bank.placeCursor 2)).panel.cursor = none := by decide

/-! ### Chapter 11: orders -/

/-- 11.3: the example of a small bank: the fields given and the fields taken. -/
theorem test_setup_fields :
    lockersTaken (order [70, 75, 212, 0, 20, 0, 250, 5, 6]) Setup.empty =
        { Setup.empty with
          lockerCount := 60, largeCount := 60, dayCode := 212, sessionLimit := 30, doorWait := 15,
          pullTime := 200, holdDuty := 10, filterInterval := 4 } ∧
      cabinsTaken (order [4, 40, 10, 3, 60, 30, 0, 20]) Setup.empty =
        { Setup.empty with
          cabinCount := 4, cabinLimit := 30, grace := 15, vacateTime := 5, walkPenalty := 60, margin := 30,
          initialDwell := 30 } := by decide

/-- A station in UNSET whose doors and bolts of lockers 1 and 2 are CLOSED and ENGAGED. -/
def unset : Station :=
  { Station.reset with
    scan.loaded := true, scan.level := { closed with bolt := 3 }, link.queue := [] }

def lockersOrder : OrderFrame := order [3, 1, 212, 0, 120, 15, 60, 30, 4]

def cabinsOrder : OrderFrame := order [1, 20, 60, 10, 60, 30, 0, 240]

/-- 11.3: the second setup order takes the station to RECOVERING: lockers 1 and 2 ORPHAN, locker 3 FREE and LARGE;
RECALL is queued before the REPORT. A second SETUP LOCKERS is REFUSED SETUP_CLOSED. -/
theorem test_setup :
    let s := after (.setupCabins cabinsOrder) (after (.setupLockers lockersOrder) unset)
    s.restart.mode = .recovering ∧ s.restart.windowEnd = some 3000 ∧
      s.lockers.lockers.map (fun l => (l.size, l.state)) =
        [(.standard, .orphan), (.standard, .orphan), (.large, .free)] ∧
      s.link.queue.map (fun f => (f.kind, f.content)) =
        [(.recall, []), (.report, [1, 1, 1, 0, 0]), (.report, [1, 1, 2, 0, 0])] ∧
      (after (.setupLockers lockersOrder) { s with link.queue := [] }).link.queue.map (·.content) =
        [[1, 1, 1, 4, 0]] := by decide

/-- R197: the window ends, and the mode is RUN. -/
theorem test_window :
    let s := after (.setupCabins cabinsOrder) (after (.setupLockers lockersOrder) unset)
    (after .recoveryWindowExpiry s).restart.mode = .run ∧ (after .recoveryWindowExpiry s).now = 3000 := by decide

/-- The answer that an order draws here. -/
def answer (c : Instr) : List (List Byte) := (after c bank).link.queue.map (·.content)

/-- R180: the tests in their order: too few bytes, a byte out of range, a locker and a cabin that are not there, an
unknown code; and no answer to a bank station. -/
theorem test_refusals :
    answer (.openLocker (order [])) = [[1, 1, 4, 3, 0]] ∧
      answer (.lockerServiceOff (order [1, 2])) = [[1, 1, 6, 3, 0]] ∧
      answer (.openLocker (order [11])) = [[1, 1, 4, 6, 0]] ∧
      answer (.cabinServiceOn (order [7, 1])) = [[1, 1, 7, 6, 0]] ∧
      answer (.orderBadCode 14 (order [])) = [[1, 1, 14, 6, 0]] ∧
      (after (.openLocker (order [6])) { bank with restart.mode := .recovering }).link.queue.map (·.content) =
        [[1, 1, 4, 2, 0]] ∧
      answer (.orderBadCode 4 { order [] with sender := 5 }) = [] ∧
      answer (.setDay { order [1] with target := 5 }) = [] := by decide

/-- R43: OPEN LOCKER of a LOCKED locker makes an ATTENDANT drive; of an UNBOLTING one it is refused. -/
theorem test_open_locker :
    ((after (.openLocker (order [6])) bank).locker? 6).map (fun l => (l.state, l.purpose, l.returnState)) =
        some (.unbolting, some .attendant, some .locked) ∧
      answer (.openLocker (order [6])) = [[1, 1, 4, 0, 0]] ∧
      answer (.openLocker (order [3])) = [[1, 1, 4, 2, 0]] := by decide

/-- R44: END HOLDING of a LOCKED locker; of a FREE one it is refused. -/
theorem test_end_holding :
    (after (.endHolding (order [6])) bank).lockerState 6 = some .free ∧
      (after (.endHolding (order [6])) bank).holdingAt 6 = none ∧
      answer (.endHolding (order [1])) = [[1, 1, 5, 2, 0]] := by decide

theorem test_locker_service :
    (after (.lockerServiceOff (order [1, 0])) bank).lockerState 1 = some .outOfService ∧
      (after (.lockerServiceOn (order [10, 1])) bank).lockerState 10 = some .free := by decide

/-- R105: off needs a FREE cabin; on releases the cabin to the oldest WAITING entry. -/
theorem test_cabin_service :
    answer (.cabinServiceOff (order [1, 0])) = [[1, 1, 7, 2, 0]] ∧
      (after (.cabinServiceOff (order [1, 0]))
        (bank.changeCabin 1 fun c => { c with state := .free })).cabinState 1 = some .outOfService ∧
      ((after (.cabinServiceOn (order [5, 1])) bank).cabin? 5).bind (·.reservedFor) = some 104 := by decide

/-- R40, R106, R156. -/
theorem test_clear_fault :
    (after (.clearFaultLocker (order [0, 8])) bank).lockerState 8 = some .locked ∧
      (after (.clearFaultCabin (order [1, 6])) bank).cabinState 6 = some .reserved ∧
      (after (.clearFaultGroup (order [2, 1])) { bank with drive.latches := 2 }).drive.latches = 0 ∧
      (after (.clearFaultGroup (order [2, 1])) { bank with drive.latches := 2, drive.inputs := 2 }).link.queue.map
        (·.content) = [[1, 1, 8, 5, 0]] := by decide

theorem test_set_day : (after (.setDay (order [213])) bank).orders.setup.dayCode = 213 := by decide

/-- R186: page 0 takes the snapshot and answers in two parts; taps since read returns to 0. -/
theorem test_counters :
    let busy : Station := { bank with taps.accepted := 1204, taps.refused := 7, taps.sinceRead := 15 }
    let s := after (.takeCountersSnapshot (order [0])) busy
    s.link.queue.map (·.content) = [[1, 1, 9, 1, 0, 0, 0, 4, 180, 0, 7], [1, 1, 9, 1, 1, 0, 15]] ∧
      s.taps.sinceRead = 0 ∧ s.orders.snapshot.sinceRead = 15 ∧
      answer (.readCounters (order [2])) =
        [[1, 1, 9, 1, 8, 0, 0, 0, 0, 0, 0], [1, 1, 9, 1, 9, 0, 0, 0, 0, 0, 0, 0]] := by decide

/-- R187: LOCKED is state 6; the door is CLOSED and the bolt RETRACTED; the wear is 88; the start minute 300. -/
theorem test_read_locker :
    answer (.readLocker (order [6])) =
      [[1, 1, 10, 1, 0, 6, 0, 2, 0, 88, 0, 0], [1, 1, 10, 1, 1, 0, 0, 0, 0, 0, 1, 44],
       [1, 1, 10, 1, 2, 1, 0, 0, 6, 0, 0, 6]] := by decide

/-- R188: page 0; and page 2, a RESERVED cabin whose LATCHED pulse is under way. -/
theorem test_read_cabins :
    answer (.readCabins (order [0])) = [[1, 1, 11, 1, 0, 6, 3, 4, 1, 4, 0, 0]] ∧
      answer (.readCabins (order [2])) =
        [[1, 1, 11, 1, 8, 2, 0, 1, 0, 2, 2, 1], [1, 1, 11, 1, 9, 0, 0, 0, 0, 0, 1, 1]] := by decide

/-- R189: the holder answers, and a station that holds nothing of the party is silent. -/
theorem test_find_party :
    answer (.findParty (order [1, 0, 0, 6])) = [[1, 1, 12, 1, 0, 6, 6, 0, 0, 0, 0, 6]] ∧
      answer (.findParty (order [1, 0, 0, 60])) = [] := by decide

/-- R190: DONE, a wait of 500 ms, and the warm start ORDERED, which ends at once. -/
theorem test_restart :
    let s := after (.restart (order [])) bank
    s.link.queue.map (·.content) = [[1, 1, 13, 0, 0]] ∧
      s.orders.restartWait.map (·.deadline) = some 1500 ∧
      (after .restartWaitExpiry s).restart.phase = .warm .ordered ∧
      (after .restartWaitExpiry s).deliveries = [.warmStartEnd 4 0 0] := by decide

/-! ### Chapter 12: starts -/

/-- The station after the logic supply has dipped below 2.9 V. -/
def dipped : Station := after .logicSupplyLow bank

/-- The station after the supply has returned. -/
def returned : Station := after (.logicSupplyRestored 4 2) dipped

/-- R195: work in flight is lost, and holdings stay. -/
theorem test_dip :
    dipped.restart.phase = .warm .supplyLow ∧ dipped.drive.queue = [] ∧ dipped.cabins.queue = [] ∧
      dipped.lockers.holdings.length = 6 ∧ returned.deliveries = [.warmStartEnd 4 2 0] := by decide

/-- R196: the check computed afresh over undamaged state is the check kept; over damaged state it is not. -/
theorem test_retention_check :
    returned.retentionCheck ^^^ 0 = returned.restart.check ∧
      returned.retentionCheck ^^^ 1 ≠ returned.restart.check := by
  have kept : returned.retentionCheck = returned.restart.check := rfl
  rw [kept]
  refine ⟨BitVec.xor_zero, fun h => ?_⟩
  have := congrArg (returned.restart.check ^^^ ·) h
  simp at this

/-- R195: the warm start ends in RUN with its cause and count. -/
theorem test_warm_start :
    let s := after (.warmStartEnd 4 2 0) returned
    (s.restart.mode, s.restart.phase, s.restart.cause, s.restart.warmStarts, s.lockers.holdings.length) =
      (.run, .running, .supplyLow, 1, 6) := by
  have answered : after (.warmStartEnd 4 2 0) returned =
      ({ returned with deliveries := [] }.completeWarm .supplyLow 4 2).finish :=
    congrArg Station.finish (if_pos test_retention_check.1)
  rw [answered]
  decide

/-- R64, R67: at that end the walk announces the first two UNANNOUNCED holdings, and a DOWN link leaves all unsent. -/
theorem test_warm_start_walk :
    let ended (up : Bool) : Station :=
      ({ walking with
        claims := { walking.claims with claims := [claim 2 (.sent 1400) none], announcements := [], walk := none }
        drive.queue := []
        link.up := up }.completeWarm .supplyLow 4 2).finish
    (ended true).link.queue.map (·.kind) = [.yield, .claim, .claim, .tally] ∧
      (ended true).claims.announcements.map (·.locker) = [3, 4] ∧ (ended false).link.queue = [] ∧
      (ended false).claims.claims = [] ∧ (ended false).claims.yielded = 1 := by decide

/-- R196: a check that differs makes a cold start. -/
theorem test_retention_bad :
    let s := after (.warmStartEnd 4 2 1) returned
    (s.restart.mode, s.restart.cause, s.lockers.holdings.length) = (.unset, .retentionBad, 0) := by
  have answered : after (.warmStartEnd 4 2 1) returned =
      ({ returned with deliveries := [] }.coldStart .retentionBad 4 2).finish :=
    congrArg Station.finish (if_neg test_retention_check.2)
  rw [answered]
  decide

/-- R195: below 1.8 V retention is lost: the next start is a cold start, here with an invalid strap (R192). -/
theorem test_power_lost :
    let s := after (.logicSupplyRestored 28 2) (after .logicSupplyLost bank)
    (s.restart.mode, s.restart.cause) = (.strapFault, .powerOn) ∧ s.panel.line =
      "STRAP FAULT             ".toList := by decide

/-- R195: the reset line. -/
theorem test_reset_line :
    (after .resetLineLow bank).restart.phase = .warm .resetLine ∧
      (after .resetLineHigh (after .resetLineLow bank)).deliveries = [.warmStartEnd 4 0 0] := by decide

/-- R46: after a warm start a LOCKED locker whose door stands OPEN is settled OPEN, and an UNBOLTING one with its
holding LOCKED. -/
theorem test_settles :
    let s := after .filterLoadEnd { bank with
      claims.claims := [], drive.queue := [], restart.settleDue := true, scan.loaded := false
      scan.history := List.replicate 4 { closed with door := closed.door &&& ~~~0x20 } }
    s.lockers.lockers.map (·.state) =
      [.free, .free, .locked, .locked, .locked, .opened, .locked, .jammed, .orphan, .outOfService] := by decide

/-! ### Witnesses: the hypotheses of the statements, clause by clause, can be met -/

/-- The statements on what every step keeps: a station with two pulls and a hold, whose step answers. -/
theorem witness_invariants :
    bank.DriveSafe ∧ bank.SlotsSound ∧ bank.Bounded ∧ bank.OnePlace ∧ bank.SupplyWatched ∧ bank.Settled ∧
      ∃ t, step (at' bank) = .next t := by
  refine ⟨⟨by decide, by decide, by decide⟩, ⟨by decide, by decide, ?_, ?_⟩, ⟨by decide, by decide, by decide,
    by decide, by decide, by decide, by decide, by decide⟩, ⟨by decide, by decide, by decide⟩, ⟨by decide, by decide⟩, rfl, _,
    rfl⟩
  · intro r hr slot ends h
    simp only [bank, List.mem_cons, List.not_mem_nil, or_false] at hr
    rcases hr with rfl | rfl | rfl <;> cases h
    · exact ⟨⟨1, none⟩, by decide, rfl, rfl⟩
    · exact ⟨⟨2, none⟩, by decide, rfl, rfl⟩
  · intro r hr q hq slot e d h g
    simp only [bank, List.mem_cons, List.not_mem_nil, or_false] at hr hq
    rcases hr with rfl | rfl | rfl <;> rcases hq with rfl | rfl | rfl <;> cases h <;> cases g <;> rfl

/-- An ordered queue; the link DOWN; a waiting TALLY; room; a full queue with and without a frame to evict; a queue
with a frame that waits, one on the line, and none of a number. -/
theorem witness_TransmitQueueRule :
    (∀ g ∈ crowded.link.queue, g.queueTime ≤ 1001) ∧
      crowded.link.queue.Pairwise (fun g h => kindCode g.kind < kindCode h.kind ∨
        (kindCode g.kind = kindCode h.kind ∧ g.queueTime ≤ h.queueTime)) ∧
      ({ bank with link.up := false } : Station).link.up = false ∧
      (∃ g ∈ crowded.link.queue, g.kind = .tally ∧ g.onLine = false) ∧ bank.link.queue.length < 12 ∧
      ((spoiling .free .plain 0).link.queue =
          [] ++ frame 1 .held .plain [] ::
            [{ frame 7 .free .plain [] with onLine := true, attempts := 3 }, frame 12 .tally .plain []] ∧
        ((spoiling .free .plain 0).link.queue.map (·.id)).Nodup ∧
        (frame 1 .held .plain []).onLine = false ∧ (∀ f ∈ (spoiling .free .plain 0).link.queue, f.id ≠ 9)) ∧
      12 ≤ crowded.link.queue.length ∧ (evictable 4 crowded.link.queue).map (·.id) = some 12 ∧
      evictable 7 crowded.link.queue = none := by decide

/-- R146: slots that rest, or hold a pull, are not free; the one slot left, the fourth, is. -/
theorem test_last_slot :
    let s : Station :=
      { bank with
        drive.slots := [⟨1, none⟩, ⟨2, none⟩, ⟨3, some 20⟩, ⟨4, none⟩]
        drive.queue := [request 2 (.bolt .first) (.pull 1 1060), request 3 (.bolt .first) (.pull 2 1060)] }
    s.freeSlot = some 4 ∧
      ({ s with drive.slots := [⟨1, none⟩, ⟨2, none⟩, ⟨3, some 20⟩, ⟨4, some 20⟩] } : Station).freeSlot = none := by
  decide

/-- An output with a request and one without; hold-down; four resting slots; only FAULTED groups; a request behind one
of a FAULTED group; a latch away from its target, and at it, with the cabin's target as its position and another; every latch seen, and a grant. -/
theorem witness_GrantRule :
    ((∃ r ∈ bank.drive.queue, r.output = 2) ∧ ∀ r ∈ bank.drive.queue, r.output ≠ 5) ∧
    (∃ s : Station, s.restart.holdDown = true) ∧
      ({ burst with drive.slots := burst.drive.slots.map fun k => { k with restUntil := some 20 } } :
        Station).freeSlot = none ∧
      ({ burst with drive.latches := 15 } : Station).grantable = none ∧
      (burst.restart.holdDown = false ∧ burst.freeSlot = some 1 ∧ burst.grantable = burst.drive.queue[0]? ∧
        (burst.drive.queue.map (·.output)).Nodup) ∧
      (({ burst with drive.latches := 7 } : Station).grantable = burst.drive.queue[6]? ∧
        burst.latchLevel 2 ≠ .unlatched) ∧
      ({ burst with drive.latches := 7, scan.level.latch := 0 } : Station).latchLevel 2 = .unlatched ∧
      ((burst.changeCabin 2 fun c => { c with latchTarget := none }).cabin? 2).map (·.latchTarget) = some none ∧
      (burst.cabin? 2).map (fun c => (c.latchTarget, c.latchPosition)) = some (some .latched, .unlatched) ∧
      bank.LatchesSeen ∧ burst.grantOne.isSome = true :=
  ⟨by decide, ⟨{ bank with restart.holdDown := true }, rfl⟩, by decide, by decide, by decide, by decide, by decide, by decide,
    by decide, by unfold Station.LatchesSeen; decide, by decide⟩

/-- No request: a target met, a target to go to. A request: for the same target; in PULL; in WAITING, with the new
target met and not met. -/
theorem witness_LatchTargetRule :
    (bank.cabin? 3).map (fun c => (c.latchPosition, c.latchMoving)) = some (.unlatched, false) ∧
      bank.request? 62 = none ∧ (bank.cabin? 2).map (·.latchPosition) = some .unlatched ∧
      (bank.request? 61).map (fun r => (r.purpose, r.phase)) = some (.latch .latched, .pull 2 1060) ∧
      ((({ bank with drive.queue := [request 61 (.latch .latched) .waiting] } : Station).request? 61).map
        (·.phase)) = some .waiting := by decide

/-- A WAITING entry behind two RESERVED ones; no WAITING entry; no FREE cabin; a FREE cabin and a WAITING entry. -/
theorem witness_ServingStep :
    (bank.cabins.queue = [entry 102 (.reserved 2), entry 103 (.reserved 3)] ++ entry 104 .waiting :: []) ∧
      (∀ q ∈ bank.cabins.queue.take 2, q.state ≠ .waiting) ∧
      (∀ c ∈ bank.cabins.cabins, c.state ≠ .free) ∧
      ((bank.changeCabin 6 fun c => { c with state := .free }).lowestFree = some 6) ∧
      (bank.cabins.cabins.map (·.number)).Pairwise (· < ·) := by decide

/-- An announced holding with the link UP; an UNANNOUNCED one in the announcement list and not in it; a walk that
rests, one that finds no holding, and one that finds the holding of locker 5. -/
theorem witness_EndingAndSettling :
    bank.holdingAt 6 = some (holding 6) ∧ (holding 6).unannounced = false ∧ bank.link.up = true ∧
      ((bank.changeHolding 6 fun h => { h with unannounced := true }).holdingAt 6).map (·.unannounced) =
        some true ∧
      ([⟨6, 7⟩] : List Announcement) = [] ++ ⟨6, 7⟩ :: [] ∧ (bank.locker? 6).map (·.state) = some .locked ∧
      bank.claims.walk = none ∧ (∀ h ∈ bank.lockers.holdings, h.unannounced = false) ∧
      (walking.claims.walk = some 5 ∧ walking.claims.announcements.length < 2 ∧
        (walking.lockers.lockers.map (·.number)).Pairwise (· < ·) ∧
        { holding 5 with unannounced := true } ∈ walking.lockers.holdings ∧
        (∀ x ∈ walking.claims.announcements, x.locker ≠ 5) ∧
        (∀ g ∈ walking.lockers.holdings, 5 ≤ g.locker → g = { holding 5 with unannounced := true } ∨ 5 < g.locker) ∧
        (walking.locker? 5).isSome = true) := by decide

/-- A FREE cabin; no cabin in service; none FREE and six in service; waits at the edge of 99 minutes. -/
theorem witness_WaitsAndGuidance :
    (∃ c ∈ (bank.changeCabin 6 fun c => { c with state := .free }).cabins.cabins, c.state = .free) ∧
      (∀ c ∈ bank.cabins.cabins.drop 4, c.state = .outOfService ∨ c.state = .fault) ∧
      ((∀ c ∈ (fullCabins 60 150).cabins.cabins, c.state ≠ .free) ∧ 0 < (fullCabins 60 150).cabinsInService) ∧
      waitMinutes 5940 = 99 ∧ waitMinutes 5941 = 99 ∧
      (fullCabins 60 150).suggestion 217 = some (.cabinsFaster 12) ∧
      (fullCabins 60 150).suggestion 180 = none ∧ bank.guidance .standard = .allLockersFull ∧
      (fullCabins 60 150).guidance .large = .noLockerHere 12 := by decide

/-- A receiver that waits for a break; an open record of 6 bytes with its gap timer running. -/
theorem witness_RecordAssembly :
    bank.restart.phase = .running ∧ (bank.input? .bank).map (·.record) = some none ∧
      (((bank.changeInput (.cabin 8) fun i =>
        { i with record := some [1, 2, 3, 4, 5, 6], gapEnd := some 1010 }).input? (.cabin 8)).map
          fun i => (i.record, i.gapEnd)) = some (some [1, 2, 3, 4, 5, 6], some 1010) := by decide

/-- Seven bytes; a check that is good and one that is not; a repeat at exactly 1 000 ms and a presentation at
1 001; a band valid today and one of another day; each mode. -/
theorem witness_CompletedRecord :
    ((reading 212 none).input? .bank).map (·.record) =
        some (some [0x00, 0x9C, 0xB5, 0x01, 0x3C, 0x00, 212]) ∧
      (157 : Byte) = 255 - (0x00 + 0x9C + 0xB5 + 0x01 + 0x3C + 0x00 + 212) ∧
      (158 : Byte) ≠ 255 - (0x00 + 0x9C + 0xB5 + 0x01 + 0x3C + 0x00 + 212) ∧
      isRepeat (some { serial := 40117, time := 0 }) 40117 1000 = true ∧
      isRepeat (some { serial := 40117, time := 0 }) 40117 1001 = false ∧
      bandNotValid [0x00, 0x9C, 0xB5, 0x01, 0x3C, 0x00, 212] 212 = false ∧
      bandNotValid [0x00, 0x9C, 0xB5, 0x01, 0x3C, 0x00, 211] 212 = true ∧
      (reading 212 none).restart.mode = .run ∧
      [Mode.strapFault, .unset, .recovering].map (fun m =>
        ({ reading 212 none with restart.mode := m } : Station).restart.mode) =
          [.strapFault, .unset, .recovering] := by decide

/-- A party whose locker is in each of the four states. -/
theorem witness_OpenDoorAnswers :
    bank.serving = true ∧ bank.link.reports = [] ∧
      [3, 4, 7, 8].map (fun n => (bank.holdingOf (tap n .standard).party, bank.lockerState n)) =
        [(some (holding 3), some .unbolting), (some (holding 4), some .unbolted),
         (some (holding 7), some .unsecured), (some (holding 8), some .jammed)] := by decide

/-- A LOCKED locker; an OPEN one with the link UP and with it DOWN, announced and UNANNOUNCED. -/
theorem witness_TapTakesLocker :
    bank.serving = true ∧ bank.link.reports = [] ∧
      [5, 6].map (fun n => (bank.holdingOf (tap n .standard).party, bank.holdingAt n, bank.lockerState n)) =
        [(some (holding 5), some (holding 5), some .opened), (some (holding 6), some (holding 6), some .locked)] ∧
      (holding 5).unannounced = false ∧ bank.link.up = true ∧ bank.link.queue.length + 2 ≤ 12 ∧
      ({ bank with link.up := false } : Station).serving = true ∧
      ((walking.holdingOf (tap 5 .standard).party).map (·.unannounced) = some true ∧
        ∀ x ∈ walking.claims.announcements, x.locker ≠ 5) := by decide

theorem witness_JoinedTap :
    bank.serving = true ∧ bank.link.reports = [] ∧ bank.holdingOf (tap 2 .standard).party = none ∧
      bank.claimOf (tap 2 .standard).party = some (claim 2 .queued none) := by decide

/-- An entry and no redirect; an insist tap at 3 000 and at 30 000 ms; a full claims table; no locker; a locker with
the link UP and with it DOWN. -/
theorem witness_UnheldTap :
    bank.serving = true ∧ bank.link.reports = [] ∧ bank.holdingOf (tap 50 .standard).party = none ∧
      bank.claimOf (tap 50 .standard).party = none ∧ bank.entryOf (tap 50 .standard).party = none ∧
      (redirected.entryOf ⟨.family, 316⟩).isSome = true ∧ redirected.redirectOf 40117 = none ∧
      (redirected.redirectOf 40118 = some ⟨40118, 5⟩ ∧ 5 + 3000 ≤ 3005 ∧ 30005 ≤ 5 + 30000) ∧
      4 ≤ ({ bank with claims.claims := [11, 12, 13, 14].map fun n => claim n .queued none } :
        Station).claims.claims.length ∧
      bank.claims.claims.length < 4 ∧ bank.chooseLocker .large = none ∧
      (bank.chooseLocker .standard).map (·.number) = some 1 ∧ bank.link.queue.length + 1 ≤ 12 := by decide

theorem witness_AdmittingTap :
    bank.serving = true ∧
      (bank.cabin? 2).map (fun c => (c.state, c.reservedFor)) =
        some (.reserved, some (tap 102 .standard).serial) ∧
      (bank.cabin? 3).map (fun c => (c.state, c.reservedFor)) =
        some (.admitting, some (tap 103 .standard).serial) := by decide

/-- A band RESERVED elsewhere; a WAITING one with and without a cabin in service; a known occupant. -/
theorem witness_CabinMessages :
    bank.serving = true ∧ (bank.cabin? 1).map (·.state) = some .occupied ∧
      (bank.queueEntry 102).map (·.state) = some (.reserved 2) ∧
      (bank.queueEntry 104).map (·.state) = some .waiting ∧ 1 ≤ bank.cabinsInService ∧
      ({ bank with cabins.cabins := bank.cabins.cabins.drop 4 } : Station).cabinsInService = 0 ∧
      (∀ e ∈ bank.cabins.queue, e.serial ≠ 101) ∧ (bank.occupiedBy 101).map (·.number) = some 1 := by decide

/-- A FREE cabin; none in service; a full queue; a queue with 15 places taken. -/
theorem witness_NewArrival :
    bank.serving = true ∧
      (∀ c ∈ bank.cabins.cabins, c.reservedFor ≠ some 105 ∧ c.occupant ≠ some 105) ∧
      (∀ e ∈ bank.cabins.queue, e.serial ≠ 105) ∧
      (bank.changeCabin 6 fun c => { c with state := .free }).lowestFree = some 6 ∧
      (bank.cabins.cabins.map (·.number)).Pairwise (· < ·) ∧
      ((∀ c ∈ bank.cabins.cabins.drop 4, c.state ≠ .free) ∧
        ({ bank with cabins.cabins := bank.cabins.cabins.drop 4 } : Station).cabinsInService = 0) ∧
      ((∀ c ∈ bank.cabins.cabins, c.state ≠ .free) ∧ 0 < bank.cabinsInService) ∧
      ((List.range 16).map fun n => entry (200 + n) .waiting).length = 16 ∧
      ((List.range 15).map fun n => entry (200 + n) .waiting).length < 16 := by decide

/-- For ClaimDeadline and ClaimWindow. A QUEUED claim; a SENT one with its door CLOSED and OPEN. -/
theorem witness_Claims :
    bank.live = true ∧ bank.link.reports = [] ∧
      (racing .queued).claimOf ⟨.family, 316⟩ = (racing .queued).claims.claims.head? ∧
      (racing (.sent 1400)).claimOf ⟨.family, 316⟩ = (racing (.sent 1400)).claims.claims.head? ∧
      ((racing (.sent 1400)).reach 1400).doorClosed 2 = true ∧
      ({ racing (.sent 1400) with scan.level.door := 0 } : Station).doorClosed 2 = false := by decide

/-- For SpoiledAttempt and OwnFrameDelivered. A frame of each kind at the third and at the fourth loss, with room; a
claim and an announcement that its id names, and others that it does not; a RESTART that waits for it; the link DOWN, with its recessive span seen and not. -/
theorem witness_Spoils :
    (∀ kind ∈ [Kind.held, .yield, .free, .claim, .recount, .recall, .report], ∀ losses ∈ [2, 3],
      let s := spoiling kind .plain losses
      s.live = true ∧ s.link.reports = [] ∧ s.link.losses < 4 ∧ s.link.up = true ∧ s.link.queue.length + 3 ≤ 12 ∧
        (s.link.queue.map (·.id)).Nodup ∧ s.frameOnLine.map (fun f => (f.id, f.kind, f.attempts)) = some (7, kind, 3)) ∧
      (∀ g ∈ [frame 1 .held .plain []] ++ [frame 12 .tally .plain []], g.onLine = false) ∧
      (racing .queued).claims.claims.find? (fun d => decide (d.frame = some 7)) = (racing .queued).claims.claims.head? ∧
      (∀ d ∈ bank.claims.claims, d.frame ≠ some 7) ∧
      ⟨6, 7⟩ ∈ (spoiling .claim (.announcement 6) 3).claims.announcements ∧
      ⟨5, 7⟩ ∉ (spoiling .claim (.announcement 5) 3).claims.announcements ∧
      (spoiling .report .plain 3).orders.restartWait = some ⟨7, 1500⟩ ∧
      (spoiling .recall .plain 3).orders.restartWait = none ∧
      (let down : Station := { spoiling .recall .plain 0 with link.up := false, link.recessiveSeen := true }
       down.live = true ∧ down.link.up = false ∧ down.link.recessiveSeen = true) ∧
      ({ spoiling .recall .plain 0 with link.up := false } : Station).link.recessiveSeen = false := by decide

/-- For SpoiledAttempt and OwnFrameDelivered on a DOWN link, its recessive span seen and not: a REPORT on the line, and
a RESTART that waits for it and for another; a RECALL while it waits. -/
theorem witness_Spoils_down :
    ∀ kind ∈ [Kind.recall, .report], ∀ seen ∈ [true, false], ∀ waits ∈ [7, 9],
      let s : Station :=
        { spoiling kind .plain 0 with
          link.up := false
          link.recessiveSeen := seen
          orders.restartWait := some ⟨waits, 1500⟩ }
      s.live = true ∧ s.link.reports = [] ∧ s.link.losses < 4 ∧ s.link.queue.length + 3 ≤ 12 ∧
        (s.link.queue.map (·.id)).Nodup ∧ s.frameOnLine.map (fun f => (f.id, f.kind, f.attempts)) = some (7, kind, 3) ∧
        s.orders.restartWait.map (·.frame) = some waits := by decide

/-- R140, R141, R190: on a DOWN link the RESTART begins when its REPORT is delivered, before the recessive span has been
seen or after it, or spoiled a fourth time, and not with another frame. -/
theorem test_restart_down :
    let phase (cmd : Instr) (seen : Bool) (waits : Nat) : Phase :=
      (after cmd { spoiling .report .plain 0 with
        link.up := false
        link.recessiveSeen := seen
        orders.restartWait := some ⟨waits, 1500⟩ }).restart.phase
    [phase .ownFrameDelivered false 7, phase .ownFrameDelivered true 7, phase .attemptSpoiled false 7,
      phase .ownFrameDelivered true 9, phase .bitError false 9] =
      [.warm .ordered, .warm .ordered, .warm .ordered, .running, .running] := by
  set_option maxRecDepth 20000 in decide

/-- For AttemptAndArbitration, SpoiledAttempt and OwnFrameDelivered. The frame on the line, first and third in its
queue; withdrawn, and not; spoiled three times. -/
theorem witness_Attempts :
    let f : TxFrame := { frame 9 .tally .plain [] with onLine := true }
    let queue : List TxFrame := [frame 1 .held .plain [], frame 2 .free .plain []] ++ f :: [frame 12 .tally .plain []]
    (∀ g ∈ [frame 1 .held .plain [], frame 2 .free .plain []] ++ [frame 12 .tally .plain []], g.onLine = false) ∧
      (queue.map (·.id)).Nodup ∧ f.onLine = true ∧
      (f.kind = .tally ∧ ∃ g ∈ [frame 12 .tally .plain []], g.kind = .tally) ∧
      (frame 1 .held .plain []).onLine = false ∧ bank.link.losses < 3 ∧ bank.link.up = true ∧
      ({ frame 1 .held .plain [] with onLine := true, attempts := 3 } : TxFrame).attempts ≥ 3 ∧
      ((racing .queued).claims.claims.find? fun d => decide (d.frame = some 7)) =
        (racing .queued).claims.claims.head? := by decide

/-- For OwnFrameDelivered, with `witness_Attempts`. A CLAIM delivered whose claim has ended: its content spells the
party and locker 60. -/
theorem witness_OwnFrameDelivered :
    claimContent ⟨.solo, 5⟩ 60 5 .large = [1, 0, 0, 5, 60, 0, 0, 5, 1] ∧
      (∀ d ∈ bank.claims.claims, d.frame ≠ some 7) ∧ bank.link.queue.length + 0 ≤ 12 := by decide

/-- A frame with its own check and another, with a length of 0 and of 13; the link UP with a CLAIM in the queue; DOWN
with the recessive span seen, for a received frame and an ORDER; a warm start with the link UP and DOWN. -/
theorem witness_LineRows :
    (0x3340 : BitVec 16) = frameCheck [0xA1, 0x00] ∧ (0x3341 : BitVec 16) ≠ frameCheck [0xA1, 0x00] ∧
      ((0 : Byte).toNat ≤ 12 ∧ ([] : List Byte).length = (0 : Byte).toNat ∧ 12 < (13 : Byte).toNat) ∧
      (∀ f ∈ bank.link.queue, f.onLine = false) ∧ bank.link.queue.length + 4 ≤ 12 ∧
      (let warm := after .resetLineLow bank
       warm.restart.phase = .warm .resetLine ∧ warm.link.queue = [] ∧ warm.link.reports = [] ∧ warm.link.up = true ∧
         (after .dominantWatchExpiry warm).link.up = false) ∧
      (orderRow (.restart (order []))).isSome = true ∧
      ((racing .queued).link.queue = [frame 7 .claim .claim []] ∧ (racing .queued).link.up = true) ∧
      ({ bank with link.up := false, link.recessiveSeen := true } : Station).live = true ∧
      bank.claims.announcements = [] ∧ (∀ h ∈ bank.lockers.holdings, h.unannounced = false) ∧
      (∀ e ∈ bank.directory.cache, e.recountDue = false) := by
  set_option maxRecDepth 20000 in decide

/-- A party known and unknown, with room; a cache of 128 entries; a redirect list of 16, whose earliest record stands
second. -/
theorem witness_DirectoryKeeps :
    (redirected.entryOf ⟨.family, 316⟩).isSome = true ∧ bank.entryOf ⟨.family, 316⟩ = none ∧
      (List.replicate 128 (⟨⟨.family, 316⟩, 4, 9, 40117, false, false⟩ : DirectoryEntry)).length = 128 ∧
      ((redirected.redirectOf 40118).isSome = true ∧ redirected.redirectOf 40117 = none) ∧
      (let before : List Redirect := [⟨1, 900⟩]
       let later : List Redirect := (List.range 14).map fun n => ⟨BitVec.ofNat 24 (n + 3), 800 + n⟩
       (before ++ ⟨2, 800⟩ :: later).length = 16 ∧ (∀ x ∈ before, 800 < x.moment) ∧
         ∀ x ∈ later, 800 ≤ x.moment) := by
  set_option maxRecDepth 20000 in decide

/-- For HeldReceived, YieldAndFreeReceived, ClaimReceived and RecallReceived, with `witness_frames_ready`. Senders 1
and 27, lockers 1 and 60; a claim in each of its states, a holding, and neither. -/
theorem witness_FramesReceived :
    ((1 : BitVec 5).toNat ≠ bank.restart.station ∧ (27 : BitVec 5).toNat = 27 ∧ (60 : Byte).toNat = 60) ∧
      (racing .queued).claimOf ⟨.family, 316⟩ ≠ none ∧ (racing (.sent 1400)).claimOf ⟨.family, 316⟩ ≠ none ∧
      (bank.claimOf ⟨.solo, 6⟩ = none ∧ bank.holdingOf ⟨.solo, 6⟩ = some (holding 6) ∧
        (holding 6).double = false) ∧
      (bank.claimOf ⟨.solo, 50⟩ = none ∧ bank.holdingOf ⟨.solo, 50⟩ = none) ∧
      (redirected.entryOf ⟨.family, 316⟩).map (·.holder) = some 4 ∧ (27 : BitVec 5).toNat ≠ redirected.restart.station ∧
      bank.link.queue.length + 2 ≤ 12 := by decide

/-- For RecallReceived. This station's own number and another's; no marked entry; a marked one of a known band behind
one that has no mark, and one of band 0. -/
theorem witness_RecallReceived :
    let fact (n : Nat) (due : Bool) : DirectoryEntry :=
      { party := ⟨.family, BitVec.ofNat 24 n⟩, holder := 11, locker := 3, serial := BitVec.ofNat 24 n,
        doubtful := false, recountDue := due }
    let s : Station := { bank with directory.cache := [fact 1 false] ++ fact 2 true :: [fact 0 true] }
    (4 : BitVec 5).toNat = bank.restart.station ∧ (11 : BitVec 5).toNat ≠ bank.restart.station ∧
      (∀ e ∈ bank.directory.cache, e.recountDue = false) ∧ s.directory.recounts < 2 ∧ s.link.up = true ∧
      s.directory.cache.length ≤ 128 ∧ (s.directory.cache.map (·.party)).Nodup ∧ (fact 2 true).serial ≠ 0 ∧
      (fact 0 true).serial = 0 := by decide

/-- Stations that hear a frame with the link UP, and two with it DOWN before its recessive span: one with a SENT claim
and one with a holding. -/
theorem witness_frames_ready :
    (racing .queued).Ready ∧ (racing (.sent 1400)).Ready ∧ redirected.Ready ∧
      ({ racing (.sent 1400) with link.up := false } : Station).Ready ∧
      ({ bank with link.up := false } : Station).Ready :=
  ⟨⟨by decide, by decide, rfl⟩, ⟨by decide, by decide, rfl⟩, ⟨by decide, by decide, rfl⟩,
    ⟨by decide, by decide, rfl⟩, ⟨by decide, by decide, rfl⟩⟩

/-- A received frame is heard from its sender. -/
theorem witness_hearsFrame : hearsFrame (.heldReceived 4 [0, 0, 1, 60, 17, 9]) := ⟨4, _, .head _⟩

/-- A RECOUNT for this station, of an ORPHAN locker with its door CLOSED and OPEN, and of one that is none; one for
another station, in range and not. -/
theorem witness_RecountReceived :
    (4 : Byte).toNat = bank.restart.station ∧ bank.lockerState (9 : Byte).toNat = some .orphan ∧
      bank.rebuilds ⟨.family, 316⟩ 9 40117 = true ∧ bank.rebuilds ⟨.family, 316⟩ 6 40117 = false ∧
      bank.doorClosed 9 = true ∧ ({ bank with scan.level.door := 0 } : Station).doorClosed 9 = false ∧
      (27 : Byte).toNat ≠ bank.restart.station ∧ ¬ (28 : Byte).toNat ≤ 27 := by decide

/-- A TALLY with each figure at the top of its range; one a unit above it; one of another length. -/
theorem witness_TallyReceived :
    (let f : Received := { moment := 1000, sender := 27, content := [7, 30, 30, 16, 119, 136, 2, 255] }
     f.neighbour.isSome = true) ∧
      (let f : Received := { moment := 1000, sender := 27, content := [7, 30, 30, 16, 119, 137, 2, 255] }
       f.neighbour = none) ∧
      ([] : List Byte).length ≠ 8 := by decide

/-- A bank station's ORDER; one for another bank; one that meets a waiting RESTART; one byte short; a bad code; a mode
other than RUN; a service byte of 2 and an object byte of 3; lockers 0 and 11 of 10 and cabins 0 and 7 of 6; a FIND PARTY
in UNSET and with a kind byte of 2. -/
theorem witness_OrdersTurnedAway :
    orderRow (.setupLockers (order [])) = some (1, order []) ∧
      ({ order [] with sender := 27 } : OrderFrame).sender.toNat < 28 ∧
      ({ order [] with target := 5 } : OrderFrame).target.toNat ≠ bank.restart.station ∧
      ({ bank with orders.restartWait := some ⟨0, 1500⟩ } : Station).orders.restartWait.isSome = true ∧
      (order [3, 1, 212, 0, 120, 15, 60, 30]).params.length < paramsNeeded 1 ∧
      orderRow (.orderBadCode 14 (order [])) = some (14, order []) ∧ ¬ (14 : Byte).toNat ≤ 13 ∧
      (let recovering : Station := { bank with restart.mode := .recovering }
       recovering.live = true ∧ recovering.restart.mode ≠ .run ∧ recovering.link.reports = [] ∧
         recovering.orders.restartWait = none) ∧
      paramsNeeded 4 ≤ (order [6]).params.length ∧ orderRow (.openLocker (order [6])) = some (4, order [6]) ∧
      orderRow (.clearFaultCabin (order [3, 5])) = some (8, order [3, 5]) ∧ bank.restart.mode = .run ∧
      ((order [5, 2]).params = 5 :: 2 :: [] ∧ 2 ≤ (2 : Byte).toNat ∧ (order [3, 5]).params = 3 :: 5 :: [] ∧
        3 ≤ (3 : Byte).toNat) ∧
      ((0 : Byte).toNat = 0 ∧ bank.orders.setup.lockerCount < (11 : Byte).toNat ∧
        bank.orders.setup.cabinCount < (7 : Byte).toNat ∧ (order [11, 1]).params = 11 :: 1 :: [] ∧
        (order [0, 11]).params = 0 :: 11 :: [] ∧ (order [1, 7]).params = 1 :: 7 :: []) ∧
      ((order [2, 0, 0, 6]).params = 2 :: [0, 0, 6] ∧ unset.restart.mode = .unset ∧ unset.live = true) ∧
      bank.link.queue.length + 1 ≤ 12 := by decide

/-- For SetupLockers and SetupCabins. A station in UNSET with neither lock closed, the other closed, and this one
closed; a locker count of 0. -/
theorem witness_Setups :
    unset.live = true ∧ unset.link.up = true ∧ unset.link.reports = [] ∧ unset.restart.mode = .unset ∧
      unset.orders.lockersLockClosed = false ∧ unset.orders.cabinsLockClosed = false ∧
      (after (.setupLockers lockersOrder) unset).orders.lockersLockClosed = true ∧
      (after (.setupCabins cabinsOrder) unset).orders.cabinsLockClosed = true ∧
      lockersOrder.params = [3, 1, 212, 0, 120, 15, 60, 30, 4] ++ [] ∧
      cabinsOrder.params = [1, 20, 60, 10, 60, 30, 0, 240] ++ [] ∧
      unset.orders.restartWait = none ∧ unset.link.queue.length + 2 ≤ 12 ∧ (0 : Byte).toNat = 0 := by decide

/-- For DayAndCounters and Reads. Pages 0, 1, 2, 3 and 25, in RUN and outside it; lockers 0, 10 and 11; a LOCKED locker
with its holding, a CLAIMING one with its claim and a driven one; cabin 6 and one too many; queue pages 11 and 24; a
party that is held and one that is not. -/
theorem witness_Reads :
    (order [25]).params = 25 :: [] ∧ 24 < (25 : Byte).toNat ∧
    (order [0]).params = 0 :: [] ∧ (order [3]).params = 3 :: [] ∧ 2 < (3 : Byte).toNat ∧
      bank.restart.mode = .run ∧ unset.restart.mode = .unset ∧ bank.link.queue.length + 3 ≤ 12 ∧
      bank.orders.setup.lockerCount < (11 : Byte).toNat ∧ (10 : Byte).toNat ≤ bank.orders.setup.lockerCount ∧
      (bank.locker? 6).map (fun l => (l.state, l.purpose, l.returnState)) = some (.locked, none, none) ∧
      bank.holdingAt 6 = some (holding 6) ∧ bank.request? 5 = none ∧
      ((bank.locker? 2).map (·.state) = some .claiming ∧ bank.claimAt 2 = some (claim 2 .queued none)) ∧
      ((bank.locker? 3).map (·.state) = some .unbolting ∧ (bank.request? 2).isSome = true) ∧
      ((6 : Byte).toNat ≤ bank.orders.setup.cabinCount ∧ bank.cabin? 6 = some (cabin 6 .fault) ∧
        bank.orders.setup.cabinCount < (7 : Byte).toNat) ∧
      bank.cabins.queue[(11 : Byte).toNat - 9]? = some (entry 104 .waiting) ∧
      bank.cabins.queue.length ≤ (24 : Byte).toNat - 9 ∧
      bank.holdingOf ⟨.solo, (0 : Byte) ++ (0 : Byte) ++ (6 : Byte)⟩ = some (holding 6) ∧ bank.holdingOf ⟨.solo, (0 : Byte) ++ (0 : Byte) ++ (60 : Byte)⟩ = none := by
  decide

/-- Lockers in every state, 10 the last of them; the order's place for one REPORT. -/
theorem witness_OpenLocker :
    bank.restart.mode = .run ∧ bank.link.queue.length + 1 ≤ 12 ∧
      (10 : Byte).toNat ≤ bank.orders.setup.lockerCount ∧
      (List.range 10).map (fun i => bank.lockerState (i + 1)) =
        [some .free, some .claiming, some .unbolting, some .unbolted, some .opened, some .locked,
         some .unsecured, some .jammed, some .orphan, some .outOfService] := by decide

/-- JAMMED lockers of each purpose and return state, with the door CLOSED and OPEN; the states of the service
orders and of END HOLDING stand in `witness_OpenLocker`. -/
theorem witness_LockerOrders :
    (order [oneByte 8]).params = oneByte 8 :: [] ∧ (order [oneByte 8, 0]).params = oneByte 8 :: 0 :: [] ∧
      (order [oneByte 8, 1]).params = oneByte 8 :: 1 :: [] ∧ (order [0, oneByte 8]).params = 0 :: oneByte 8 :: [] ∧
      (bank.holdingAt 8).isSome = true ∧ bank.link.queue.length + 3 ≤ 12 ∧
      ([(some Purpose.first, some LockerState.free), (some .retrieve, some .locked),
        (some .attendant, some .locked), (some .attendant, some .orphan), (some .attendant, some .free),
        (some .attendant, some .outOfService)].map fun x =>
          ((bank.changeLocker 8 fun l => { l with purpose := x.1, returnState := x.2 }).locker? 8).map
            fun l => (l.state, l.purpose, l.returnState)) =
        [some (.jammed, some .first, some .free), some (.jammed, some .retrieve, some .locked),
         some (.jammed, some .attendant, some .locked), some (.jammed, some .attendant, some .orphan),
         some (.jammed, some .attendant, some .free), some (.jammed, some .attendant, some .outOfService)] ∧
      bank.doorClosed 8 = true ∧ ({ bank with scan.level.door := 0 } : Station).doorClosed 8 = false := by decide

/-- Cabins in every state, 6 the last of them, with the pad CLEAR and CONFIRMED. -/
theorem witness_CabinOrders :
    (List.range 6).map (fun i => bank.cabinState (i + 1)) =
        [some .occupied, some .reserved, some .admitting, some .occupied, some .outOfService, some .fault] ∧
      (bank.changeCabin 6 fun c => { c with state := .free }).cabinState 6 = some .free ∧
      ((bank.changeCabin 5 fun c => { c with presence := .confirmed }).cabin? 5).map (·.presence) =
        some .confirmed ∧
      6 ≤ bank.orders.setup.cabinCount ∧ (order [oneByte 6, 0]).params = oneByte 6 :: 0 :: [] ∧
      (order [1, oneByte 6]).params = 1 :: oneByte 6 :: [] := by decide

/-- For ClearGroup and Restart. Groups 3 and 4, with the input active and inactive; a RESTART that waits. -/
theorem witness_ClearGroup_Restart :
    (order [2, 3]).params = 2 :: 3 :: [] ∧ (3 : Byte).toNat ≤ 3 ∧ 3 < (4 : Byte).toNat ∧
      bank.drive.inputs.getLsbD 3 = false ∧
      ({ bank with drive.inputs := 8 } : Station).drive.inputs.getLsbD 3 = true ∧
      bank.faulted 3 = false ∧ ({ bank with drive.latches := 8 } : Station).faulted 3 = true ∧
      ({ bank with orders.restartWait := some ⟨0, 1500⟩ } : Station).orders.restartWait = some ⟨0, 1500⟩ := by
  decide

theorem witness_TimerRows :
    bank.live = true ∧ bank.link.reports = [] ∧ bank.tally.timer = some 2000 ∧ bank.link.up = true ∧
      ({ bank with link.up := false } : Station).link.up = false ∧
      ((fullCabins 60 150).neighbour? 12).map (fun n => (n.heard, n.aged)) = some (true, false) ∧
      ((fullCabins 60 150).neighbour? 2).map (·.aged) = some true ∧
      redirected.redirectOf 40118 = some ⟨40118, 5⟩ := by decide

/-- For LockerWaits and SecuringRows. A grant wait that ends before its pull, with it and after it; a door wait
under each purpose and return state; a bolt wait with the bolt in and out. -/
theorem witness_LockerWaits :
    (bank.live = true ∧ bank.link.reports = [] ∧ bank.link.queue.length + 2 ≤ 12 ∧ bank.link.up = true ∧
      bank.claims.walk = none) ∧
    (bank.request? 2 = some (request 2 (.bolt .first) (.pull 1 1060)) ∧ (1059 : Moment) ≤ 1060 ∧
        (1060 : Moment) ≤ 1060 ∧ (1060 : Moment) < 1061) ∧
    ([1059, 1060, 1061, 16000].map fun w =>
        ((bank.changeLocker 3 fun l => { l with grantWait := some w }).locker? 3).map (·.grantWait)) =
        [some (some 1059), some (some 1060), some (some 1061), some (some 16000)] ∧
      ([(some Purpose.first, some LockerState.free), (some .retrieve, some .locked),
        (some .attendant, some .locked), (some .attendant, some .free), (some .attendant, some .orphan),
        (some .attendant, some .outOfService)].map fun x =>
          ((bank.changeLocker 4 fun l =>
            { l with doorWait := some 16000, purpose := x.1, returnState := x.2 }).locker? 4).map
              fun l => (l.doorWait, l.purpose, l.returnState)) =
        [some (some 16000, some .first, some .free), some (some 16000, some .retrieve, some .locked),
         some (some 16000, some .attendant, some .locked), some (some 16000, some .attendant, some .free),
         some (some 16000, some .attendant, some .orphan),
         some (some 16000, some .attendant, some .outOfService)] ∧
      ((bank.changeLocker 6 fun l => { l with boltWait := some 3000 }).locker? 6).map (·.boltWait) =
        some (some 3000) ∧
      bank.boltEngaged 6 = false ∧ ({ bank with scan.level.bolt := 0x20 } : Station).boltEngaged 6 = true := by
  decide

/-- For SecuringRows and DoorOpens. Door and bolt events find the lockers of `witness_OpenLocker`, with the filters
loaded; the cursor on one. -/
theorem witness_DoorsAndBolts :
    bank.live = true ∧ bank.scan.loaded = true ∧ (bank.locker? 5).map (·.boltWait) = some none ∧
      (bank.placeCursor 5).panel.cursor = some 5 ∧
      (bank.locker? 4).map (fun l => (l.state, l.purpose)) = some (.unbolted, some .retrieve) := by decide

/-- For BoltPullEnds and LatchPullEnds. A report on its way, and none; a bolt's pull with the bolt RETRACTED and
ENGAGED, at attempts 1 and 3; a latch's, reached and missed, with the target still wanted and not, changed to one that
the position is not, reserved and not; a jam rest; a slot's rest. -/
theorem witness_PullEnds :
    3 - 1 ∈ ({ bank with drive.late := [2] } : Station).drive.late ∧ bank.drive.late = [] ∧
      ((bank.changeCabin 2 fun c => { c with latchTarget := some .unlatched, latchPosition := .latched }).cabin? 2).map
        (fun c => (c.latchTarget, c.latchPosition)) = some (some .unlatched, .latched) ∧
    bank.request? 2 = some (request 2 (.bolt .first) (.pull 1 1060)) ∧ bank.boltEngaged 3 = false ∧
      ({ bank with scan.level.bolt := 4 } : Station).boltEngaged 3 = true ∧
      bank.request? 61 = some (request 61 (.latch .latched) (.pull 2 1060)) ∧ bank.latchLevel 2 = .unlatched ∧
      ({ bank with scan.level.latch := 2 } : Station).latchLevel 2 = .latched ∧
      (bank.cabin? 2).map (fun c => (c.latchTarget, c.reservedFor)) = some (some .latched, some 102) ∧
      ((bank.changeCabin 2 fun c => { c with latchTarget := none, reservedFor := none }).cabin? 2).map
        (fun c => (c.latchTarget, c.reservedFor)) = some (none, none) ∧
      ({ burst with drive.queue := [request 11 (.bolt .first) (.rest 260)] } : Station).request? 11 =
        some (request 11 (.bolt .first) (.rest 260)) ∧
      (({ bank with drive.slots := [⟨4, some 1020⟩] } : Station).drive.slots.find? fun y =>
        decide (y.number = 4)) = some ⟨4, some 1020⟩ := by decide

/-- A group with a hold of a RETRIEVE and no other, its latch CLEAR and FAULTED; a group with no hold; holds of each
purpose together, with room for a FREE of each; hold-down in force and released, with and without its timer; blocks that
run and, in STRAP_FAULT, do not. -/
theorem witness_SupplyRows :
    bank.drive.latches.getLsbD 0 = false ∧ ({ bank with drive.latches := 1 } : Station).drive.latches.getLsbD 0 = true ∧
      (bank.drive.queue = [request 2 (.bolt .first) (.pull 1 1060)] ++ request 3 (.bolt .retrieve) .hold ::
        [request 61 (.latch .latched) (.pull 2 1060)] ∧ (bank.locker? 4).map (·.purpose) = some (some .retrieve)) ∧
      (∀ r ∈ bank.drive.queue, decide (r.output / 17 = 3) = true → r.phase ≠ .hold) ∧
      (let s : Station :=
         { bank with
           lockers.lockers :=
             [locker 1 .unbolted (some .attendant) (some .orphan), locker 2 .unbolted (some .retrieve) (some .locked),
              locker 3 .unbolted (some .first) (some .free)]
           drive.queue :=
             [request 0 (.bolt .attendant) .hold, request 1 (.bolt .retrieve) .hold, request 2 (.bolt .first) .hold] }
       (∀ h ∈ s.lockers.holdings, h.unannounced = false) ∧ s.link.queue.length + s.drive.queue.length ≤ 12) ∧
      bank.live = true ∧ ({ bank with restart.mode := .strapFault } : Station).live = false ∧
      bank.restart.holdDown = false ∧ (after .driveSupplyLow bank).restart.holdDown = true ∧
      (after .driveSupplyLow bank).restart.releaseAt = none ∧
      (after .driveSupplyRise (after .driveSupplyLow bank)).restart.releaseAt = some 1100 := by decide

theorem witness_CabinTimers :
    (bank.cabin? 2).map (fun c => (c.graceAt, c.reservedFor)) = some (some 60000, some 102) ∧
      (bank.cabin? 3).map (fun c => (c.admitAt, c.reservedFor)) = some (some 30000, some 103) ∧
      (bank.cabin? 4).map (fun c => (c.vacateAt, c.clearMoment)) = some (some 1000, some 990) := by decide

/-- Pads in each state, on cabins in each state; a latch event with no target, with the target met, and away from
it. -/
theorem witness_PresenceAndLatch :
    bank.scan.loaded = true ∧ (bank.pad? 4).map (·.presence) = some .clear ∧
      (bank.cabin? 4).map (fun c => (c.state, c.vacateAt.isSome)) = some (.occupied, true) ∧
      (bank.cabin? 1).map (fun c => (c.state, c.vacateAt.isSome)) = some (.occupied, false) ∧
      ((bank.changePad 3 fun p => { p with presence := .seen, confirmAt := some 1000 }).pad? 3).map
        (fun p => (p.presence, p.confirmAt)) = some (.seen, some 1000) ∧
      (bank.cabin? 3).map (fun c => (c.state, c.latchTarget, c.latchMoving, c.reservedFor)) =
        some (.admitting, some .unlatched, false, some 103) ∧ bank.request? 62 = none ∧
      (bank.cabin? 2).map (fun c => (c.state, c.reservedFor)) = some (.reserved, some 102) ∧
      ((bank.changeCabin 6 fun c => { c with state := .free }).cabin? 6).map
        (fun c => (c.state, c.reservedFor)) = some (.free, none) := by decide

/-- A text of 24 characters and one of 29; the timers of a pair; the scroll at its end; a frame at each step count;
a frame while a text is held and while a pair's second text has its turn; cell 11, whose locker is not there, and 72; a
frame in STRAP_FAULT; a panel of 72 cells. -/
theorem witness_PanelRows :
    (Text.chars (.cabinsFaster 12)).length = 24 ∧ 24 < (Text.chars (.noLockerHere 10)).length ∧
      (bank.placeCursor 2).panel.cursorTimer = some 16000 ∧
      (let s := bank.postMessage ⟨.cabinQueueFull, some (.cabinsFaster 12)⟩
       s.panel.holdEnd = some 9000 ∧ s.panel.turnEnd = some 3000 ∧ bank.panel.turnEnd = none ∧
         s.panel.message = some ⟨.cabinQueueFull, some (.cabinsFaster 12)⟩) ∧
      (bank.post (.noLockerHere 10)).panel.scroll < (Text.chars (.noLockerHere 10)).length + 4 ∧
      bank.panel.stepCount < 11 ∧ bank.panel.message = none ∧ bank.panel.scroll = 0 ∧
      (let s : Station := { bank.post (.noLockerHere 10) with panel.stepCount := 11 }
       s.panel.stepCount = 11 ∧ s.panel.message = some ⟨.noLockerHere 10, none⟩ ∧ s.panel.scroll < 33) ∧
      (let s : Station := { bank.postMessage ⟨.cabinQueueFull, some (.cabinsFaster 12)⟩ with panel.secondTurn := true }
       s.panel.message = some ⟨.cabinQueueFull, some (.cabinsFaster 12)⟩ ∧ s.panel.secondTurn = true ∧
         s.panel.stepCount < 11) ∧
      (bank.locker? 11 = none ∧ bank.panel.cursor = none ∧ bank.cabin? (67 - 60) = none) ∧
      (let s : Station := { bank with restart.mode := .strapFault }
       s.restart.phase = .running ∧ s.restart.mode = .strapFault ∧ s.panel.cursor = none) ∧
      bank.panel.cells.length = 72 ∧
      (bank.locker? 1).isSome = true ∧ (bank.cabin? 1).isSome = true ∧ bank.panel.cursor ≠ some 61 := by decide

/-- R195: a start RESET_LINE ends with the line high and the supply above 3.0 V, whichever comes last, and
WARM_START_END before that changes nothing. Each state meets the hypotheses of a clause of StartRows. -/
theorem test_reset_line_and_supply :
    let both := after .resetLineLow (after .logicSupplyLow bank)
    let high := after .resetLineHigh both
    let normal := after (.logicSupplyRestored 4 2) both
    both.restart.phase = .warm .resetLine ∧ both.restart.resetLineLow = true ∧ both.restart.logicSupply = .low ∧
      both.link.reports = [] ∧ (after (.warmStartEnd 4 2 0) both).restart.phase = .warm .resetLine ∧
      (high.restart.resetLineLow, high.restart.logicSupply, high.deliveries) = (false, .low, []) ∧
      (after (.logicSupplyRestored 4 2) high).deliveries = [.warmStartEnd 4 2 0] ∧
      (normal.restart.resetLineLow, normal.restart.logicSupply, normal.deliveries) = (true, .normal, []) ∧
      (after .resetLineHigh normal).deliveries = [.warmStartEnd 4 2 0] ∧
      (after .resetLineHigh (after .logicSupplyLow bank)).deliveries = [] := by
  set_option maxRecDepth 20000 in decide

/-- Supplies, straps 0, 1, 27 and 28, and the end of a warm start with the link UP and DOWN, and with UNANNOUNCED
holdings of which those of lockers 3 and 4 are the first two; a recovery window; a station in STRAP_FAULT. That the
check computed afresh can equal the one kept, and differ from it, is `test_retention_check`. -/
theorem witness_StartRows :
    let low := after .logicSupplyLow bank
    bank.restart.phase ≠ .off ∧ (after .logicSupplyLost bank).restart.phase = .off ∧
      low.restart.phase = .warm .supplyLow ∧ low.link.reports = [] ∧
      (after .resetLineLow bank).restart.phase = .warm .resetLine ∧
      (after .resetLineLow bank).restart.logicSupply = .normal ∧
      (let s := after (.logicSupplyRestored 4 2) low
       s.restart.phase = .warm .supplyLow ∧ s.restart.logicSupply = .normal ∧ s.restart.resetLineLow = false ∧
         s.link.queue = [] ∧ s.link.up = true ∧ s.link.reports = [] ∧ s.claims.announcements = [] ∧
         s.claims.walk = none ∧ s.claims.claims.length ≤ 4) ∧
      (after .dominantWatchExpiry low).link.up = false ∧
      ((holding 4).unannounced = false ∧ { holding 4 with unannounced := true } ∈ walking.lockers.holdings ∧
        walking.lockers.lockers.map (·.number) = (List.range walking.lockers.lockers.length).map (· + 1) ∧
        (walking.lockers.holdings.map (·.locker)).Nodup ∧ (walking.locker? 4).isSome = true ∧
        (walking.lockers.holdings.countP fun g => g.unannounced && decide (g.locker < 4)) < 2) ∧
      (let fault := after (.logicSupplyRestored 28 2) (after .logicSupplyLost bank)
       fault.restart.phase = .running ∧ fault.restart.mode = .strapFault ∧ fault.drive.queue = [] ∧
         fault.link.queue = [] ∧ fault.link.reports = []) ∧
      (0 : BitVec 5).toNat = 0 ∧ 28 ≤ (28 : BitVec 5).toNat ∧
      (1 ≤ (27 : BitVec 5).toNat ∧ (27 : BitVec 5).toNat ≤ 27) ∧
      ({ unset with restart.windowEnd := some 3000 } : Station).live = true := by decide

/-- For ScannerRows. What waits between blocks: taps alone, and no sample. -/
theorem witness_ScannerRows_waiting :
    (∀ e ∈ [Instr.lockerTap (tap 6 .standard), .cabinTap 1 (tap 6 .standard)],
      (∃ tap, e = .lockerTap tap) ∨ ∃ n tap, e = .cabinTap n tap) ∧
      ∀ e ∈ [Instr.filterLoadEnd], ∀ y, e ≠ .senseSample y := by simp

/-- A sample with the filters loaded; one with three and fewer samples of a load, and one with all four;
a load's end, with the settlements due and not; a locker and a cabin taken since, and ones to settle. -/
theorem witness_ScannerRows :
    bank.live = true ∧ bank.scan.loaded = true ∧ bank.scan.history = [closed, closed, closed, closed] ∧
      (let s : Station := { bank with scan.loaded := false, scan.history := [closed, closed, closed] }
       s.scan.loaded = false ∧ s.scan.history.length ≤ 3) ∧
      (let s : Station :=
         { bank with
           scan.loaded := false, scan.history := [closed, closed, closed, closed], restart.settleDue := true,
           deliveries := [.filterLoadEnd] }
       s.live = true ∧ s.scan.loaded = false ∧ s.scan.history.length = 4 ∧ s.restart.settleDue = true) ∧
      (bank.cabin? 1).map (·.unsettled) = some false ∧
      ((bank.changeCabin 1 fun c => { c with unsettled := true }).cabin? 1).map (·.unsettled) = some true ∧
      bank.restart.settleDue = false ∧ bank.link.reports = [] ∧
      ({ bank with claims.claims := [], drive.queue := [] } : Station).takenSince 2 = false ∧
      ({ bank with claims.claims := [], drive.queue := [] } : Station).takenSince 3 = false ∧
      bank.takenSince 5 = false ∧ bank.takenSince 8 = false ∧ bank.holdingAt 9 = none := by decide

end Sys2Proof.Tests
end

/-!
PROOFS. Lockers and holdings: a tap at the bank reader whose whole answer is a message, or a message and a count
(R27, R28), and OPEN LOCKER by the state of the locker (R43). Before them, what a tap and an ORDER come to when they
are taken, said once.
-/

namespace Sys2Proof.Machine

open Sys2Proof

variable (s : Station)

/-! ### A tap at the bank reader (R24) -/

/-- While the station serves, LOCKER_TAP reaches the tap's moment and takes the steps of R24, and the owners of
frames take their reports. -/
theorem runs_lockerTap {tap : Tap} {st : State} {P : Station → Station → Prop}
    (serving : st.station.serving = true)
    (p : P (st.station.take (.lockerTap tap))
      (((st.station.take (.lockerTap tap)).reach tap.time).lockerTap tap).finish) :
    Runs (.lockerTap tap) st P := by
  refine runs_performFinish rfl ?_
  simpa only [Station.take_serving, serving, if_true] using p

/-- A tap whose steps leave the link alone makes no report, so those steps are its whole effect. -/
theorem runs_lockerTap_of_link {tap : Tap} {st : State} {f : Station → Station}
    (serving : st.station.serving = true) (settled : st.station.Settled)
    (steps : ((st.station.take (.lockerTap tap)).reach tap.time).lockerTap tap = f (st.station.take (.lockerTap tap)))
    (link : (f (st.station.take (.lockerTap tap))).link = st.station.link) :
    Runs (.lockerTap tap) st fun a t => t = f a := by
  apply runs_lockerTap serving
  rw [steps, finish_settled _ ((congrArg Link.reports link).trans settled)]

/-- R24, step 1: a party with a holding here is answered by the locker of that holding. -/
theorem lockerTap_of_holding {tap : Tap} {h : Holding} (held : s.holdingOf tap.party = some h) :
    s.lockerTap tap = s.tapHeld h.locker := by
  simp only [Station.lockerTap, held]

/-- R24, step 2: a party with no holding and with a claim here is answered by that claim. -/
theorem lockerTap_of_claim {tap : Tap} {c : Claim} (free : s.holdingOf tap.party = none)
    (claimed : s.claimOf tap.party = some c) : s.lockerTap tap = s.tapClaimed c := by
  simp only [Station.lockerTap, free, claimed]

/-- R27: a held locker that is neither LOCKED nor OPEN draws its message alone. -/
theorem tapHeld_posts {n : Nat} {state : LockerState} {text : Text} (at' : s.lockerState n = some state)
    (row : (state, text) ∈ [(LockerState.unbolting, Text.lockerOpenDoor n), (.unbolted, .lockerOpenDoor n),
      (.unsecured, .lockerOpenDoor n), (.jammed, .seeAttendant)]) :
    s.tapHeld n = s.post text := by
  simp only [List.mem_cons, Prod.mk.injEq, List.not_mem_nil, or_false] at row
  rcases row with ⟨rfl, rfl⟩ | ⟨rfl, rfl⟩ | ⟨rfl, rfl⟩ | ⟨rfl, rfl⟩ <;>
    simp only [Station.tapHeld, at']

/-- The joined-band count, a byte, stops at 255. -/
theorem satInc_byte (x : Byte) : satInc x = if x = 255 then 255 else x + 1 := by
  have last : BitVec.allOnes 8 = 255 := by decide
  unfold satInc
  rw [last]
  split
  · assumption
  · rfl

/-- Settles O19: the steps of R24 come to `tapHeld`, which in these four states posts and does nothing else. -/
theorem openDoorAnswers : Obligations.OpenDoorAnswers := by
  intro tap h state text s serving settled held at' row
  refine runs_lockerTap_of_link serving settled ?_ rfl
  rw [lockerTap_of_holding _ (by simpa using held), tapHeld_posts _ (by simpa using at') row]

/-- Settles O21: the steps of R24 come to `tapClaimed`, and the claim found is the tapping party's own. -/
theorem joinedTap : Obligations.JoinedTap := by
  intro tap c s serving settled free claimed
  refine runs_lockerTap_of_link serving settled ?_ rfl
  rw [lockerTap_of_claim _ (by simpa using free) (by simpa using claimed)]
  simp only [Station.tapClaimed, claimOf_party _ claimed, satInc_byte, Station.changeClaim, Station.reach_claims,
    Station.take_claims]

/-! ### Taking an ORDER (R179 to R182) -/

@[simp] theorem heardLine_orders : s.heardLine.orders = s.orders := rfl
@[simp] theorem heardLine_restart : s.heardLine.restart = s.restart := rfl
@[simp] theorem heardLine_lockerState (n : Nat) : s.heardLine.lockerState n = s.lockerState n := rfl
@[simp] theorem heardLine_link_queue : s.heardLine.link.queue = s.link.queue := rfl
@[simp] theorem heardLine_link_reports : s.heardLine.link.reports = s.link.reports := rfl

/-- R179: an ORDER that the order unit takes has its effect once the frame has been heard, and then its answer. -/
theorem orderReceived_of_takes {code : Byte} {o : OrderFrame} {take : Station → Station × Answer}
    (stays : s.link.up = true ∨ s.link.recessiveSeen = false) (takes : s.Takes o) :
    s.orderReceived code o take = (take s.heardLine).1.answer code o (take s.heardLine).2 := by
  obtain ⟨console, target, waits⟩ := takes
  have here : ¬ (o.target.toNat ≠ 0 ∧ o.target.toNat ≠ s.restart.station) := by
    rintro ⟨all, own⟩
    exact target.elim all own
  have sent : ¬ o.sender.toNat < 28 := Nat.not_lt.mpr console
  simp only [Station.orderReceived, frameHeard_stays s stays, heardLine_restart, heardLine_orders, here, sent, waits,
    if_false, Option.isSome_none, Bool.false_eq_true]

/-- R182: outside READ COUNTERS and READ CABINS the one REPORT of an answer without data has page 0. -/
theorem answer_plain {code : Byte} {o : OrderFrame} (result : OrderResult) (unpaged : code ≠ 9 ∧ code ≠ 11) :
    s.answer code o (.plain result) = s.reported o code result.code 0 [] := by
  have page : reportPage code o 0 = 0 := if_neg (not_or.mpr unpaged)
  show s.offer _ (reportContent (consoleOf o) code result.code (reportPage code o 0) []) _ _ = _
  rw [page]
  rfl

/-- A REPORT that finds room in the queue makes no report to its owner yet (R135, R140). -/
theorem reported_reports (o : OrderFrame) (code result page : Byte) (data : List Byte) (room : s.Room 1) :
    (s.reported o code result page data).link.reports = s.link.reports :=
  offer_reports s _ _ _ _ (.inr (.inr rfl)) room

/-- A taken ORDER whose effect leaves no report waiting, and room for its REPORT, runs to its effect and its one
REPORT without data. -/
theorem runs_order {c : Instr} {code : Byte} {o : OrderFrame} {take : Station → Station × Answer} {st : State}
    {P : Station → Station → Prop} (meaning : exec c st = performOrder c code o take st)
    (unpaged : code ≠ 9 ∧ code ≠ 11) (ready : st.station.Ready) (takes : st.station.Takes o)
    {u : Station} {result : OrderResult}
    (effect : take (st.station.take c).heardLine = (u, .plain result))
    (settled : u.Settled) (room : u.Room 1)
    (p : P (st.station.take c) (u.reported o code result.code 0 [])) : Runs c st P := by
  have stays : (st.station.take c).link.up = true ∨ (st.station.take c).link.recessiveSeen = false :=
    ready.link.imp_right And.left
  have taken : (st.station.take c).Takes o := ⟨takes.console, takes.target, takes.waits⟩
  have live : (st.station.take c).live = true := ready.live
  refine runs_performFinish meaning ?_
  rw [whenLive_live _ _ live, orderReceived_of_takes _ stays taken, effect, answer_plain u result unpaged,
    finish_settled _ ((reported_reports u o code _ _ _ room).trans settled)]
  exact p

/-! ### OPEN LOCKER (R43) -/

/-- R180, R181: in RUN, an order on a locker that exists, with its parameters, passes every test. -/
theorem testOrder_named_locker {o : OrderFrame} {need n : Nat} {act : Station → Station × Answer}
    (long : need ≤ o.params.length) (run : s.restart.mode = .run) (named : 1 ≤ n ∧ n ≤ s.orders.setup.lockerCount) :
    s.testOrder o need awayOutsideRun true (namesLocker n) act = act s := by
  have exists' : namesLocker n s = true := by simp [namesLocker, named]
  simp [Station.testOrder, awayOutsideRun, Nat.not_lt.mpr long, run, exists']

/-- R43: a locker at rest is opened for the attendant, and returns to the state it had. -/
theorem takeOpenLocker_opens {n : Nat} {state : LockerState} (at' : s.lockerState n = some state)
    (rests : state ∈ [LockerState.locked, .orphan, .free, .outOfService]) :
    s.takeOpenLocker n = (s.unboltLocker n .attendant state none, .plain .done) := by
  simp only [List.mem_cons, List.not_mem_nil, or_false] at rests
  rcases rests with rfl | rfl | rfl | rfl <;> simp only [Station.takeOpenLocker, at', Station.done]

/-- R43: a locker that is open already stays as it is. -/
theorem takeOpenLocker_stands {n : Nat} {state : LockerState} (at' : s.lockerState n = some state)
    (opened : state ∈ [LockerState.opened, .unsecured]) : s.takeOpenLocker n = (s, .plain .done) := by
  simp only [List.mem_cons, List.not_mem_nil, or_false] at opened
  rcases opened with rfl | rfl <;> simp only [Station.takeOpenLocker, at', Station.done]

/-- R43: a locker on its way, or jammed, is not opened by an order. -/
theorem takeOpenLocker_refused {n : Nat} {state : LockerState} (at' : s.lockerState n = some state)
    (busy : state ∈ [LockerState.claiming, .unbolting, .unbolted, .jammed]) :
    s.takeOpenLocker n = (s, .plain .refusedState) := by
  simp only [List.mem_cons, List.not_mem_nil, or_false] at busy
  rcases busy with rfl | rfl | rfl | rfl <;> simp only [Station.takeOpenLocker, at', Station.refusedByState]

/-- OPEN LOCKER of a locker that exists, in RUN: whatever R43 says of it, provided the link is left alone. -/
theorem runs_openLocker {o : OrderFrame} {n : Byte} {rest : List Byte} {st : State}
    {P : Station → Station → Prop} (ready : st.station.Ready) (run : st.station.restart.mode = .run)
    (takes : st.station.Takes o) (room : st.station.Room 1) (params : o.params = n :: rest)
    (named : 1 ≤ n.toNat ∧ n.toNat ≤ st.station.orders.setup.lockerCount) {u : Station} {result : OrderResult}
    (effect : (st.station.take (.openLocker o)).heardLine.takeOpenLocker n.toNat = (u, .plain result))
    (link : u.link = (st.station.take (.openLocker o)).heardLine.link)
    (p : P (st.station.take (.openLocker o)) (u.reported o 4 result.code 0 [])) :
    Runs (.openLocker o) st P := by
  have first : paramByte o 0 = n := by simp [paramByte, params]
  refine runs_order rfl (by decide) ready takes (effect := ?_) (settled := ?_) (room := ?_) p
  · rw [first, testOrder_named_locker (st.station.take (.openLocker o)).heardLine (by simp [params]) run named,
      effect]
  · exact (congrArg Link.reports link).trans ready.settled
  · show u.link.queue.length + 1 ≤ 12
    rw [link]
    exact room

/-- Settles O44, by the three outcomes of `takeOpenLocker`; each leaves the link alone. -/
theorem openLocker : Obligations.OpenLocker := by
  intro o n rest state s ready run takes room params low high at'
  refine ⟨fun rests => ?_, fun opened => ?_, fun busy => ?_⟩
  · exact runs_openLocker ready run takes room params ⟨low, high⟩ (takeOpenLocker_opens _ at' rests)
      (unboltLocker_link _ _ _ _ _) rfl
  · exact runs_openLocker ready run takes room params ⟨low, high⟩ (takeOpenLocker_stands _ at' opened) rfl rfl
  · exact runs_openLocker ready run takes room params ⟨low, high⟩ (takeOpenLocker_refused _ at' busy) rfl rfl

end Sys2Proof.Machine

/-!
PROOFS. Taps at a cabin reader by a band that has a cabin or a place in the queue: the admission of the reserved band
(R102), and the taps that are answered by a message alone (R103). Before them, what such a tap comes to in each case
of R101, said once.
-/

namespace Sys2Proof.Machine

open Sys2Proof

variable (s : Station)

/-! ### A tap at a cabin reader (R101) -/

/-- While the station serves, CABIN_TAP reaches the tap's moment and takes the case of R101. -/
theorem runs_cabinTap {n : Nat} {tap : Tap} {st : State} {f : Station → Station}
    (serving : st.station.serving = true)
    (outcome : ((st.station.take (.cabinTap n tap)).reach tap.time).cabinTap n tap =
      f (st.station.take (.cabinTap n tap))) :
    Runs (.cabinTap n tap) st fun a t => t = f a := by
  refine runs_perform rfl ?_
  simpa only [Station.take_serving, serving, if_true] using outcome

@[simp] theorem take_reservedHere (c : Instr) (n : Nat) (serial : BitVec 24) :
    (s.take c).reservedHere n serial = s.reservedHere n serial := rfl
@[simp] theorem reach_reservedHere (t : Moment) (n : Nat) (serial : BitVec 24) :
    (s.reach t).reservedHere n serial = s.reservedHere n serial := rfl

/-- A cabin waits here for the band when it is RESERVED or ADMITTING for that band. -/
theorem reservedHere_of_cabin {n : Nat} {serial : BitVec 24} {c : Cabin} (here : s.cabin? n = some c)
    (kept : c.state = .reserved ∨ c.state = .admitting) (band : c.reservedFor = some serial) :
    s.reservedHere n serial = some c := by
  have both : ((decide (c.state = .reserved) || decide (c.state = .admitting)) &&
      decide (c.reservedFor = some serial)) = true := by simpa [band] using kept
  simp only [Station.reservedHere, here, both, if_true]

/-- No cabin waits here for a band when a cabin kept here is kept for another. -/
theorem reservedHere_none {n : Nat} {serial : BitVec 24}
    (other : ∀ c, s.cabin? n = some c → c.state = .reserved ∨ c.state = .admitting →
      c.reservedFor ≠ some serial) : s.reservedHere n serial = none := by
  unfold Station.reservedHere
  split
  · rfl
  next c here =>
    refine if_neg fun both => ?_
    obtain ⟨kept, band⟩ := by simpa using both
    exact other c here kept band

/-- R101, case 1: a cabin waits here for the band. -/
theorem cabinTap_of_reservedHere {n : Nat} {tap : Tap} {c : Cabin}
    (here : s.reservedHere n tap.serial = some c) : s.cabinTap n tap = s.admittingTap c := by
  simp only [Station.cabinTap, here]

/-- R101, case 2: the band's entry is RESERVED for a cabin. -/
theorem cabinTap_of_reserved {n c : Nat} {tap : Tap} {e : QueueEntry}
    (away : s.reservedHere n tap.serial = none) (queued : s.queueEntry tap.serial = some e)
    (reserved : e.state = .reserved c) : s.cabinTap n tap = s.post (.goToCabin c) := by
  simp only [Station.cabinTap, away, queued, reserved]

/-- R101, case 3: the band's entry is WAITING. -/
theorem cabinTap_of_waiting {n : Nat} {tap : Tap} {e : QueueEntry}
    (away : s.reservedHere n tap.serial = none) (queued : s.queueEntry tap.serial = some e)
    (waiting : e.state = .waiting) : s.cabinTap n tap = s.post (s.waitingMessage (s.ahead tap.serial)) := by
  simp only [Station.cabinTap, away, queued, waiting]

/-- R101, case 4: the band is the known occupant of a cabin. -/
theorem cabinTap_of_occupant {n : Nat} {tap : Tap} {c : Cabin}
    (away : s.reservedHere n tap.serial = none) (unqueued : s.queueEntry tap.serial = none)
    (occupies : s.occupiedBy tap.serial = some c) : s.cabinTap n tap = s.post (.cabin c.number) := by
  simp only [Station.cabinTap, away, unqueued, occupies]

/-! ### A band's place in the queue (R97) -/

@[simp] theorem take_ahead (c : Instr) (serial : BitVec 24) : (s.take c).ahead serial = s.ahead serial := rfl
@[simp] theorem reach_ahead (t : Moment) (serial : BitVec 24) : (s.reach t).ahead serial = s.ahead serial := rfl

/-- The entry of a band is the first that names it. -/
theorem queueEntry_of_first {serial : BitVec 24} {before after : List QueueEntry} {e : QueueEntry}
    (queue : s.cabins.queue = before ++ e :: after) (first : ∀ q ∈ before, q.serial ≠ serial)
    (own : e.serial = serial) : s.queueEntry serial = some e := by
  rw [Station.queueEntry, List.find?_eq_some_iff_append]
  exact ⟨decide_eq_true own, before, after, queue, fun q hq => by simpa using first q hq⟩

/-- The entries ahead of a band are those before the first that names it. -/
theorem ahead_of_first {serial : BitVec 24} {before after : List QueueEntry} {e : QueueEntry}
    (queue : s.cabins.queue = before ++ e :: after) (first : ∀ q ∈ before, q.serial ≠ serial)
    (own : e.serial = serial) : s.ahead serial = before.length := by
  rw [Station.ahead, queue, List.takeWhile_append_of_pos fun q hq => decide_eq_true (first q hq),
    List.takeWhile_cons_of_neg (by simp [own]), List.append_nil]

/-- A band that no entry names has no entry. -/
theorem queueEntry_none {serial : BitVec 24} (absent : ∀ e ∈ s.cabins.queue, e.serial ≠ serial) :
    s.queueEntry serial = none := by
  rw [Station.queueEntry, List.find?_eq_none]
  exact fun e he => by simpa using absent e he

/-! ### Taps answered by a message alone (R103) -/

/-- With a cabin in service a WAITING band is told its position and its wait. -/
theorem waitingMessage_of_service (k : Nat) (service : 1 ≤ s.cabinsInService) :
    s.waitingMessage k = .queueAbout (k + 1) (waitMinutes (s.waitEstimate k)) :=
  if_neg (Nat.ne_of_gt service)

/-- With no cabin in service a WAITING band is told its position and that the cabins are closed. -/
theorem waitingMessage_of_closed (k : Nat) (closed : s.cabinsInService = 0) :
    s.waitingMessage k = .queueClosed (k + 1) :=
  if_pos closed

/-- Settles O24, by the cases 2 to 4 of R101; in each the outcome is one posting. -/
theorem cabinMessages : Obligations.CabinMessages := by
  intro n tap s serving other
  have away : s.station.reservedHere n tap.serial = none := reservedHere_none s.station other
  refine ⟨fun before e after queue first own => ?_, fun c absent occupies => ?_⟩
  · have queued : s.station.queueEntry tap.serial = some e := queueEntry_of_first s.station queue first own
    have ahead : s.station.ahead tap.serial = before.length := ahead_of_first s.station queue first own
    refine ⟨fun c reserved => ?_, fun waiting service => ?_, fun waiting closed => ?_⟩
    · exact runs_cabinTap serving (cabinTap_of_reserved _ away queued reserved)
    · refine runs_cabinTap serving ?_
      rw [cabinTap_of_waiting _ (by simpa using away) (by simpa using queued) waiting, reach_ahead, take_ahead,
        ahead, waitingMessage_of_service _ _ (by simpa using service)]
      rfl
    · refine runs_cabinTap serving ?_
      rw [cabinTap_of_waiting _ (by simpa using away) (by simpa using queued) waiting, reach_ahead, take_ahead,
        ahead, waitingMessage_of_closed _ _ (by simpa using closed)]
  · exact runs_cabinTap serving (cabinTap_of_occupant _ away (queueEntry_none s.station absent) occupies)

/-! ### The reserved band is admitted (R102) -/

/-- A band that is being admitted draws its message again, and nothing else. -/
theorem admittingTap_of_admitting {c : Cabin} (admitting : c.state = .admitting) :
    s.admittingTap c = s.post (.cabinEnter c.number) :=
  if_pos admitting

/-- The tap at a RESERVED cabin ends the grace of the cabin and of the band's entry, starts the admit timer, and has
the latch released. -/
theorem admittingTap_of_reserved {c : Cabin} {serial : BitVec 24} (reserved : c.state = .reserved)
    (band : c.reservedFor = some serial) :
    s.admittingTap c =
      ((((s.changeEntry serial fun e => { e with graceEnd := none }).changeCabin c.number fun d =>
        { d with state := .admitting, graceAt := none, admitAt := some (s.now + 30000) }).setLatchTarget c.number
          (some .unlatched)).post (.cabinEnter c.number)) := by
  have fresh : ¬ c.state = .admitting := by simp [reserved]
  simp only [Station.admittingTap, fresh, if_false, band]
  rfl

/-- Settles O23: case 1 of R101 in both states of the cabin, whose record is the one of the reader's number. -/
theorem admittingTap : Obligations.AdmittingTap := by
  intro n tap c s serving found band
  have number : c.number = n := cabin?_number s.station found
  have waits (kept : c.state = .reserved ∨ c.state = .admitting) :
      s.station.reservedHere n tap.serial = some c := reservedHere_of_cabin s.station found kept band
  refine ⟨fun reserved => ?_, fun admitting => ?_⟩
  · refine runs_cabinTap serving ?_
    rw [cabinTap_of_reservedHere _ (by simpa using waits (.inl reserved)), admittingTap_of_reserved _ reserved band,
      number]
    rfl
  · refine runs_cabinTap serving ?_
    rw [cabinTap_of_reservedHere _ (by simpa using waits (.inr admitting)), admittingTap_of_admitting _ admitting,
      number]

end Sys2Proof.Machine

/-!
PROOFS. CLEAR FAULT of a drive group (R156): what the order comes to once it names a group, by the group's input and
latch. The latch register that it leaves is read bit by bit.
-/

namespace Sys2Proof.Machine

open Sys2Proof

variable (s : Station)

/-! ### The fault latches (R156) -/

/-- Clearing a group's bit leaves the bits of the other groups. -/
theorem clearGroup_getLsbD (g : Nat) (latches : BitVec 4) {k : Nat} (bit : k < 4) :
    (clearGroup g latches).getLsbD k = (latches.getLsbD k && decide (k ≠ g)) := by
  have cleared : (~~~((1 : BitVec 4) <<< g)).getLsbD k = decide (k ≠ g) := by
    rw [BitVec.getLsbD_not, BitVec.getLsbD_shiftLeft, BitVec.ofNat_eq_ofNat, BitVec.getLsbD_one]
    rcases Nat.lt_trichotomy k g with below | rfl | above
    · simp [bit, below, below.ne]
    · simp [bit]
    · simp [bit, Nat.not_lt.mpr above.le, above.ne', Nat.sub_ne_zero_of_lt above]
  rw [clearGroup, BitVec.getLsbD_and, cleared]

/-! ### The tests of the order (R180, R181) -/

/-- In RUN, with its parameters, CLEAR FAULT of a group passes every test but that the group exists. -/
theorem testOrder_group {o : OrderFrame} {g : Byte} {rest : List Byte} (act : Station → Station × Answer)
    (run : s.restart.mode = .run) (params : o.params = 2 :: g :: rest) :
    s.testOrder o 2 awayOutsideRun (decide (paramByte o 0 = 2)) (fun _ => (paramByte o 1).toNat ≤ 3) act =
      if g.toNat ≤ 3 then act s else (s, .plain .refusedNoSuch) := by
  have long : ¬ o.params.length < 2 := by simp [params]
  have coded : paramByte o 0 = 2 := by simp [paramByte, params]
  have named : paramByte o 1 = g := by simp [paramByte, params]
  have stays : awayOutsideRun s = none := if_pos run
  by_cases group : g.toNat ≤ 3 <;> simp [Station.testOrder, long, coded, named, stays, group]

/-! ### The group's input and latch (R156) -/

/-- While the group's input is active its fault cannot be cleared. -/
theorem takeClearGroup_active {g : Nat} (active : s.drive.inputs.getLsbD g = true) :
    s.takeClearGroup g = (s, .plain .refusedFaultActive) :=
  if_pos active

/-- A latch that is CLEAR already stays so. -/
theorem takeClearGroup_clear {g : Nat} (inactive : s.drive.inputs.getLsbD g = false)
    (clear : s.faulted g = false) : s.takeClearGroup g = (s, .plain .done) := by
  simp only [Station.takeClearGroup, inactive, clear, Bool.false_eq_true, if_false, Station.done]

/-- A FAULTED latch is cleared, and the requests that waited for it are tested for a grant. -/
theorem takeClearGroup_faulted {g : Nat} (inactive : s.drive.inputs.getLsbD g = false)
    (faulted : s.faulted g = true) :
    s.takeClearGroup g =
      (({ s with drive.latches := clearGroup g s.drive.latches } : Station).grantTest, .plain .done) := by
  simp only [Station.takeClearGroup, inactive, faulted, Bool.false_eq_true, if_false, if_true, Station.done]

/-! ### CLEAR FAULT of a drive group -/

/-- CLEAR FAULT of a group, in RUN: the answer of the one test left, or of R156, provided the link is left alone. -/
theorem runs_clearFaultGroup {o : OrderFrame} {g : Byte} {rest : List Byte} {st : State}
    {P : Station → Station → Prop} (ready : st.station.Ready) (run : st.station.restart.mode = .run)
    (takes : st.station.Takes o) (room : st.station.Room 1) (params : o.params = 2 :: g :: rest)
    {u : Station} {result : OrderResult}
    (effect : (if g.toNat ≤ 3 then (st.station.take (.clearFaultGroup o)).heardLine.takeClearGroup g.toNat
      else ((st.station.take (.clearFaultGroup o)).heardLine, .plain .refusedNoSuch)) = (u, .plain result))
    (link : u.link = (st.station.take (.clearFaultGroup o)).heardLine.link)
    (p : P (st.station.take (.clearFaultGroup o)) (u.reported o 8 result.code 0 [])) :
    Runs (.clearFaultGroup o) st P := by
  have named : paramByte o 1 = g := by simp [paramByte, params]
  refine runs_order rfl (by decide) ready takes (effect := ?_) (settled := ?_) (room := ?_) p
  · rw [testOrder_group (st.station.take (.clearFaultGroup o)).heardLine _ run params, named, effect]
  · exact (congrArg Link.reports link).trans ready.settled
  · show u.link.queue.length + 1 ≤ 12
    rw [link]
    exact room

/-- Settles O47, by the group's existence and then the three outcomes of `takeClearGroup`; each leaves the link
alone. The name `clearGroup` is the model's. -/
theorem clearGroupOrder : Obligations.ClearGroup := by
  intro o g rest s ready run takes room params
  refine ⟨fun above => ?_, fun group => ⟨fun active => ?_, fun inactive clear => ?_, fun inactive faulted => ?_⟩⟩
  · exact runs_clearFaultGroup ready run takes room params (if_neg (Nat.not_le.mpr above)) rfl rfl
  · exact runs_clearFaultGroup ready run takes room params
      ((if_pos group).trans (takeClearGroup_active _ active)) rfl rfl
  · exact runs_clearFaultGroup ready run takes room params
      ((if_pos group).trans (takeClearGroup_clear _ inactive clear)) rfl rfl
  · exact runs_clearFaultGroup ready run takes room params
      ((if_pos group).trans (takeClearGroup_faulted _ inactive faulted)) (grantTest_link _)
      ⟨_, fun _ bit => clearGroup_getLsbD _ _ bit, rfl⟩

end Sys2Proof.Machine

/-!
PROOFS. The machine as a whole: a step takes its command off the queue and answers a next state (O1, O2), and the
reset state meets every invariant (O9). What every command keeps, every step keeps.
-/

namespace Sys2Proof.Machine

open Sys2Proof

/-- The station that a command leaves. -/
def effect (c : Instr) (s : Station) : Station :=
  match exec c { pending := [], station := s } with
  | .next t => t.station
  | .fault _ => s
  | .refused _ => s

/-- Every command changes the station alone. -/
theorem exec_effect (c : Instr) (s : State) : exec c s = .next { s with station := effect c s.station } := by
  cases c <;> rfl

/-- A command whose meaning is `perform` has its change as its effect, its own event taken. -/
theorem effect_perform {c : Instr} {f : Station → Station} (meaning : ∀ u, exec c u = perform c f u) (s : Station) :
    effect c s = f (s.take c) := by
  simp only [effect, meaning, perform]

/-- A command whose meaning is `performFinish` lets the owners of frames take their reports after its change. -/
theorem effect_performFinish {c : Instr} {f : Station → Station}
    (meaning : ∀ u, exec c u = performFinish c f u) (s : Station) : effect c s = (f (s.take c)).finish := by
  simp only [effect, meaning, performFinish, perform]

/-- Settles O1: `step` looks at the front of the queue first. -/
theorem stepTakesFront : Obligations.StepTakesFront := fun _ _ _ => rfl

/-- Settles O2: the next state differs in its station alone. -/
theorem everyCommandAnswers : Obligations.EveryCommandAnswers := fun c s => ⟨_, exec_effect c s⟩

/-- A step is a command's effect, or a millisecond that passes. -/
theorem step_station {s t : State} (h : step s = .next t) :
    (∃ c, t.station = effect c s.station) ∨ t.station = s.station.passTime := by
  have ran {c : Instr} {pending : List Instr} (run : exec c { s with pending } = .next t) :
      ∃ c, t.station = effect c s.station := by
    rw [exec_effect] at run
    cases run
    exact ⟨c, rfl⟩
  unfold step at h
  split at h
  · exact .inl (ran h)
  · split at h
    · exact .inl (ran (pending := s.pending) h)
    · split at h
      · exact .inl (ran (pending := s.pending) h)
      · cases h
        exact .inr rfl

/-- What every command and the passing of time keep, every step keeps. -/
theorem step_keeps {I : Station → Prop} (passed : ∀ s, I s → I s.passTime) (kept : ∀ c s, I s → I (effect c s))
    (s t : State) (i : I s.station) (h : step s = .next t) : I t.station := by
  rcases step_station h with ⟨c, e⟩ | e
  · rw [e]
    exact kept c _ i
  · rw [e]
    exact passed _ i

/-- Settles O9: the reset state is one concrete station. -/
theorem resetMeetsInvariants : Obligations.ResetMeetsInvariants := by
  refine ⟨⟨?_, ?_, ?_⟩, ⟨?_, ?_, ?_, ?_⟩, ⟨?_, ?_, ?_, ?_, ?_, ?_, ?_, ?_⟩, ⟨?_, ?_, ?_⟩, ⟨?_, ?_⟩, ?_⟩ <;>
    simp [State.reset, Station.reset, DriveArbiter.resetSlots, Station.Settled]

end Sys2Proof.Machine

/-!
PROOFS. What the operations of the blocks can do to the fields of which the invariants speak, said once: `Change` names
the single changes, and each operation is a chain of them (`Leads`).
-/

namespace Sys2Proof.Machine

open Sys2Proof

/-! ### The fields of which the invariants speak -/

/-- What the invariants of Sys2Proof/Safety.lean read of a station. -/
structure Vitals where
  holdDown    : Bool
  releaseAt   : Option Moment
  driveSupply : DriveSupply
  phase       : Phase
  mode        : Mode
  requests    : List DriveRequest
  slots       : List Slot
  latches     : BitVec 4
  frames      : List Kind
  up          : Bool
  claims      : List PartyKey
  holdings    : List PartyKey
  announced   : Nat
  walking     : Bool
  cached      : Nat
  redirected  : Nat
  queued      : Nat
  cabins      : List Nat

/-- The vitals of a station. -/
def Station.vitals (s : Station) : Vitals :=
  { holdDown := s.restart.holdDown
    releaseAt := s.restart.releaseAt
    driveSupply := s.restart.driveSupply
    phase := s.restart.phase
    mode := s.restart.mode
    requests := s.drive.queue
    slots := s.drive.slots
    latches := s.drive.latches
    frames := s.link.queue.map (·.kind)
    up := s.link.up
    claims := s.claims.claims.map (·.party)
    holdings := s.lockers.holdings.map (·.party)
    announced := s.claims.announcements.length
    walking := s.claims.walk.isSome
    cached := s.directory.cache.length
    redirected := s.directory.redirects.length
    queued := s.cabins.queue.length
    cabins := s.cabins.cabins.map (·.number) }

/-! ### The single changes -/

/-- R154: the requests that are left when those that `p` picks are aborted: a pull waits again, a hold is gone. -/
def abortedRequests (p : DriveRequest → Bool) (requests : List DriveRequest) : List DriveRequest :=
  (requests.filter fun r => !(p r && decide (r.phase = .hold))).map fun r =>
    match r.phase with
    | .pull _ _ => if p r then { r with phase := .waiting } else r
    | _ => r

/-- R154: the slots of the pulls that `p` picks rest. -/
def abortedSlots (p : DriveRequest → Bool) (rest : Moment) (requests : List DriveRequest) (slots : List Slot) :
    List Slot :=
  updateWhere
    (fun k => requests.any fun r =>
      p r && (match r.phase with
        | .pull slot _ => decide (slot = k.number)
        | _ => false))
    (fun k => { k with restUntil := some rest }) slots

/-- A slot rests. -/
def restedSlots (slot : Nat) (rest : Moment) (slots : List Slot) : List Slot :=
  updateWhere (fun k => decide (k.number = slot)) (fun k => { k with restUntil := some rest }) slots

/-- The phase of an output's request is set. -/
def phased (output : Nat) (phase : DrivePhase) (requests : List DriveRequest) : List DriveRequest :=
  updateWhere (fun r => decide (r.output = output)) (fun r => { r with phase }) requests

/-- A slot that rests no longer, and is in no pull. -/
def Vitals.slotFree (v : Vitals) (slot : Nat) : Prop :=
  (∃ k ∈ v.slots, k.number = slot ∧ k.restUntil = none) ∧ ∀ r ∈ v.requests, ∀ ends, r.phase ≠ .pull slot ends

/-- The changes that the blocks can make while no start begins or ends. -/
inductive Change (v : Vitals) : Vitals → Prop
  /-- R145, R150: a request enters at the tail, WAITING. -/
  | requested (r : DriveRequest) (waits : r.phase = .waiting) (fresh : ∀ q ∈ v.requests, q.output ≠ r.output) :
      Change v { v with requests := v.requests ++ [r] }
  /-- R152: requests leave the queue. -/
  | withdrawn {requests : List DriveRequest} (fewer : requests.Sublist v.requests) : Change v { v with requests }
  /-- R146: a request of a sound group enters PULL in a free slot. -/
  | granted (r : DriveRequest) (slot : Nat) (ends : Moment) (released : v.holdDown = false)
      (sound : v.latches.getLsbD (groupOf r.output) = false) (free : v.slotFree slot) :
      Change v { v with requests := phased r.output (.pull slot ends) v.requests }
  /-- R149, R151: a pull ends, and its slot rests. -/
  | pulled (r : DriveRequest) {slot : Nat} {ends : Moment} (stands : r ∈ v.requests)
      (pull : r.phase = .pull slot ends) (rest : Moment) (phase : DrivePhase) (ended : ∀ k e, phase ≠ .pull k e) :
      Change v { v with
        requests := phased r.output phase v.requests
        slots := restedSlots slot rest v.slots }
  /-- R151: the rest of a slot ends. -/
  | slotRested (slot : Nat) :
      Change v { v with
        slots := updateWhere (fun k => decide (k.number = slot)) (fun k => { k with restUntil := none }) v.slots }
  /-- R153, R154: a group becomes FAULTED, and its drives are aborted. -/
  | groupFaulted (g : Nat) (rest : Moment) :
      Change v { v with
        latches := groupBit g true v.latches
        requests := abortedRequests (fun r => decide (groupOf r.output = g)) v.requests
        slots := abortedSlots (fun r => decide (groupOf r.output = g)) rest v.requests v.slots }
  /-- R156: fault latches are cleared. -/
  | groupCleared {latches : BitVec 4} (fewer : ∀ g, latches.getLsbD g = true → v.latches.getLsbD g = true) :
      Change v { v with latches }
  /-- R194: the supply falls below 20.0 V, with hold-down in force. -/
  | supplyLower (held : v.holdDown = true) : Change v { v with driveSupply := .low, releaseAt := none }
  /-- R194: the supply falls below 20.0 V, and every drive is aborted. -/
  | supplyFell (rest : Moment) :
      Change v { v with
        driveSupply := .low
        holdDown := true
        releaseAt := none
        requests := abortedRequests (fun _ => true) v.requests
        slots := abortedSlots (fun _ => true) rest v.requests v.slots }
  /-- R194: the supply rises above 21.5 V. -/
  | supplyRose (m : Moment) :
      Change v { v with
        driveSupply := .high
        releaseAt := if v.holdDown && v.releaseAt.isNone then some m else v.releaseAt }
  /-- R194: the supply falls to 21.5 V or below. -/
  | supplySagged : Change v { v with driveSupply := .middle, releaseAt := none }
  /-- R155, R194: the release timer ends. -/
  | released (timed : v.releaseAt.isSome = true) : Change v { v with holdDown := false, releaseAt := none }
  /-- R134 to R137, R140: frames enter and leave the transmit queue. -/
  | framed {frames : List Kind} (fits : v.frames.length ≤ 12 → frames.length ≤ 12)
      (down : v.up = false → ∀ k ∈ frames, k ∈ v.frames ∨ k = .recall ∨ k = .report) : Change v { v with frames }
  /-- R139: the link goes DOWN. -/
  | wentDown : Change v { v with up := false, frames := [], announced := 0, walking := false }
  /-- R141: the link comes UP. -/
  | wentUp : Change v { v with up := true }
  /-- R64: a walk starts. -/
  | walkStarted (up : v.up = true) : Change v { v with walking := true }
  /-- R64: a walk ends. -/
  | walkEnded : Change v { v with walking := false }
  /-- R64: a walk announces a holding. -/
  | announced (walking : v.walking = true) (few : v.announced < 2) (goesOn : Bool) :
      Change v { v with announced := v.announced + 1, walking := goesOn }
  /-- R65, R66: announcements leave the list. -/
  | unlisted {announced : Nat} (fewer : announced ≤ v.announced) : Change v { v with announced }
  /-- R48: a claim is made for a party with no place here. -/
  | claimed (p : PartyKey) (few : v.claims.length < 4) (unclaimed : p ∉ v.claims) (unheld : p ∉ v.holdings) :
      Change v { v with claims := v.claims ++ [p] }
  /-- R50: claims end. -/
  | claimsEnded {claims : List PartyKey} (fewer : claims.Sublist v.claims) : Change v { v with claims }
  /-- R33: a claim becomes a holding. -/
  | confirmed (p : PartyKey) (claimed : p ∈ v.claims) :
      Change v { v with
        claims := v.claims.filter fun q => decide (q ≠ p)
        holdings := v.holdings ++ [p] }
  /-- R198: a holding is rebuilt for a party with no place here. -/
  | rebuilt (p : PartyKey) (unclaimed : p ∉ v.claims) (unheld : p ∉ v.holdings) :
      Change v { v with holdings := v.holdings ++ [p] }
  /-- R21: holdings end. -/
  | holdingsEnded {holdings : List PartyKey} (fewer : holdings.Sublist v.holdings) : Change v { v with holdings }
  /-- R71 to R80: the cache changes. -/
  | cached {cached : Nat} (fits : v.cached ≤ 128 → cached ≤ 128) : Change v { v with cached }
  /-- R78: the redirect list changes. -/
  | redirected {redirected : Nat} (fits : v.redirected ≤ 16 → redirected ≤ 16) : Change v { v with redirected }
  /-- R97: the cabin queue changes. -/
  | queued {queued : Nat} (fits : v.queued ≤ 16 → queued ≤ 16) : Change v { v with queued }
  /-- R85: the cabin records are made. -/
  | cabinsMade {cabins : List Nat} (ordered : cabins.Pairwise (· < ·)) : Change v { v with cabins }
  /-- R193: the station enters RECOVERING or RUN. -/
  | entered {mode : Mode} (valid : mode ≠ .strapFault) : Change v { v with mode }

/-- The first station's vitals lead to the second's by single changes. -/
def Leads (s t : Station) : Prop := Relation.ReflTransGen Change s.vitals t.vitals

namespace Leads

variable {s t u : Station}

theorem of_vitals (same : t.vitals = s.vitals) : Leads s t := by
  unfold Leads
  rw [same]

theorem refl (s : Station) : Leads s s := Relation.ReflTransGen.refl

theorem one (change : Change s.vitals t.vitals) : Leads s t := .single change

theorem trans (first : Leads s t) (next : Leads t u) : Leads s u := Relation.ReflTransGen.trans first next

/-- A property of vitals that every single change keeps. -/
theorem keeps {I : Vitals → Prop} (leads : Leads s t) (kept : ∀ v w, I v → Change v w → I w) (i : I s.vitals) :
    I t.vitals := by
  have run {v w : Vitals} (chain : Relation.ReflTransGen Change v w) (iv : I v) : I w := by
    induction chain with
    | refl => exact iv
    | tail _ change ih => exact kept _ _ ih change
  exact run leads i

end Leads

/-- No single change begins or ends a start, nor leads into STRAP_FAULT. -/
theorem Change.keeps_live {v w : Vitals} (live : v.phase = .running ∧ v.mode ≠ .strapFault) (change : Change v w) :
    w.phase = .running ∧ w.mode ≠ .strapFault := by
  cases change <;> first | exact live | exact ⟨live.1, ‹_›⟩

theorem live_iff_vitals (s : Station) :
    s.live = true ↔ s.vitals.phase = .running ∧ s.vitals.mode ≠ .strapFault := by
  simp [Station.live, Station.vitals]

/-- So a station whose blocks run is led to one whose blocks run. -/
theorem Leads.live {s t : Station} (leads : Leads s t) (live : s.live = true) : t.live = true :=
  (live_iff_vitals t).2
    (leads.keeps (I := fun v => v.phase = .running ∧ v.mode ≠ .strapFault) (fun _ _ => Change.keeps_live)
      ((live_iff_vitals s).1 live))

end Sys2Proof.Machine

/-!
PROOFS. The chain of single changes that each operation is: the tables, the transmit queue, the drive, the walk.
-/

namespace Sys2Proof.Machine

open Sys2Proof

variable (s : Station)

/-! ### Records -/

theorem changeHolding_vitals (n : Nat) (f : Holding → Holding) (keeps : ∀ h, (f h).party = h.party) :
    (s.changeHolding n f).vitals = s.vitals := by
  unfold Station.vitals
  rw [Station.changeHolding_lockers_holdings, map_updateWhere _ _ _ _ keeps]
  rfl

theorem changeClaim_vitals (p : PartyKey) (f : Claim → Claim) (keeps : ∀ c, (f c).party = c.party) :
    (s.changeClaim p f).vitals = s.vitals := by
  unfold Station.vitals
  rw [Station.changeClaim_claims_claims, map_updateWhere _ _ _ _ keeps]
  rfl

theorem changeCabin_vitals (n : Nat) (f : Cabin → Cabin) (keeps : ∀ c, (f c).number = c.number) :
    (s.changeCabin n f).vitals = s.vitals := by
  unfold Station.vitals
  rw [Station.changeCabin_cabins_cabins, map_updateWhere _ _ _ _ keeps]
  rfl

theorem changeEntry_vitals (b : BitVec 24) (f : QueueEntry → QueueEntry) : (s.changeEntry b f).vitals = s.vitals := by
  unfold Station.vitals
  rw [Station.changeEntry_cabins_queue, updateWhere_length]
  rfl

/-- An entry that leaves the cabin queue makes it no longer. -/
theorem removeEntry_leads (b : BitVec 24) : Leads s (s.removeEntry b) :=
  .one (.queued fun fits => (List.length_filter_le _ _).trans fits)

theorem follow_vitals (f : Levels → Levels) : (s.follow f).vitals = s.vitals := by
  unfold Station.follow
  split <;> rfl

/-! ### The party directory (chapter 4) -/

/-- Leaving out a party's entry makes room for one. -/
theorem withoutEntry_length {p : PartyKey} (known : (s.entryOf p).isSome = true) :
    (s.withoutEntry p).length + 1 ≤ s.directory.cache.length := by
  obtain ⟨e, found⟩ := Option.isSome_iff_exists.1 known
  exact List.length_filter_lt_length_iff_exists.2
    ⟨e, List.mem_of_find?_eq_some found, by simpa using List.find?_some found⟩

theorem learn_leads (p : PartyKey) (holder locker : Nat) (b : BitVec 24) :
    Leads s (s.learn p holder locker b) := by
  refine .one (.cached fun fits => ?_)
  simp only [Station.learn, List.length_append, List.length_singleton]
  simp only [Station.vitals] at fits
  split
  · have := withoutEntry_length s ‹_›
    omega
  · split
    · simp only [List.length_drop]
      omega
    · omega

theorem forget_leads (p : PartyKey) (x : Nat) : Leads s (s.forget p x) := by
  unfold Station.forget
  split
  · split
    · exact .one (.cached fun fits => (List.length_filter_le _ _).trans fits)
    · exact .refl s
  · exact .refl s

theorem touchEntry_leads (p : PartyKey) : Leads s (s.touchEntry p) := by
  unfold Station.touchEntry
  split
  next e found =>
    have room := withoutEntry_length s (p := p) (by rw [found]; rfl)
    refine .one (.cached fun fits => ?_)
    simp only [List.length_append, List.length_singleton]
    exact room.trans fits
  · exact .refl s

theorem markDoubtful_vitals (p : PartyKey) : (s.markDoubtful p).vitals = s.vitals := by
  simp [Station.vitals, Station.markDoubtful]

theorem deleteDoubtful_leads (p : PartyKey) : Leads s (s.deleteDoubtful p) :=
  .one (.cached fun fits => (List.length_filter_le _ _).trans fits)

theorem markRecount_vitals (x : Nat) : (s.markRecount x).vitals = s.vitals := by
  simp [Station.vitals, Station.markRecount]

theorem clearRecount_vitals (p : PartyKey) : (s.clearRecount p).vitals = s.vitals := by
  simp [Station.vitals, Station.clearRecount]

theorem removeRedirect_leads (b : BitVec 24) : Leads s (s.removeRedirect b) :=
  .one (.redirected fun fits => (List.length_filter_le _ _).trans fits)

/-- The record that leaves a full redirect list stands in it. -/
theorem earliest_mem (best : Redirect) (rest : List Redirect) :
    rest.foldl (fun best x => if x.moment < best.moment then x else best) best ∈ best :: rest := by
  induction rest generalizing best with
  | nil => simp
  | cons x rest ih =>
    have found := ih (if x.moment < best.moment then x else best)
    simp only [List.foldl_cons, List.mem_cons] at found ⊢
    rcases found with e | deeper
    · rw [e]
      split <;> simp
    · exact .inr (.inr deeper)

theorem withoutEarliest_length (l : List Redirect) : (withoutEarliest l).length = l.length - 1 := by
  cases l with
  | nil => rfl
  | cons r rest => exact List.length_erase_of_mem (earliest_mem r rest)

theorem recordRedirect_leads (b : BitVec 24) (m : Moment) : Leads s (s.recordRedirect b m) := by
  unfold Station.recordRedirect
  split
  · exact .of_vitals (by simp [Station.vitals])
  · refine .one (.redirected fun fits => ?_)
    simp only [List.length_append, List.length_singleton]
    simp only [Station.vitals] at fits
    split
    · rw [withoutEarliest_length]
      omega
    · omega

/-! ### The transmit queue (chapter 7) -/

theorem reportFate_vitals (f : TxFrame) (fate : Fate) : (s.reportFate f fate).vitals = s.vitals := rfl

theorem mem_insertFrame {f g : TxFrame} {queue : List TxFrame} : g ∈ insertFrame f queue ↔ g = f ∨ g ∈ queue := by
  have parts := List.takeWhile_append_dropWhile (p := fun g => decide (kindCode g.kind ≤ kindCode f.kind)) (l := queue)
  conv_rhs => rw [← parts]
  simp only [insertFrame, List.mem_append, List.mem_cons]
  tauto

/-! ### The best of a list -/

section

variable {α : Type} {better : α → α → Bool}

/-- The better of two, of which the first may be absent and stays where the second is no better. -/
def pick (better : α → α → Bool) (best : Option α) (x : α) : Option α :=
  match best with
  | none => some x
  | some b => if better x b then some x else some b

theorem pick_isSome (best : Option α) (x : α) : (pick better best x).isSome := by
  unfold pick
  split
  · rfl
  · split <;> rfl

theorem foldl_pick_isSome {l : List α} {best : Option α} (start : best.isSome) : (l.foldl (pick better) best).isSome := by
  induction l generalizing best with
  | nil => exact start
  | cons x xs ih => exact ih (pick_isSome best x)

/-- None is the best only of an empty list. -/
theorem foldl_pick_none {l : List α} (none : l.foldl (pick better) none = .none) : l = [] := by
  cases l with
  | nil => rfl
  | cons x xs =>
    have found := foldl_pick_isSome (better := better) (l := xs) (pick_isSome (better := better) .none x)
    rw [List.foldl_cons] at none
    rw [none] at found
    cases found

/-- The best stands in the list, and is at least as good as every other. -/
theorem foldl_pick_some {asGood : α → α → Prop} (self : ∀ x, asGood x x)
    (trans : ∀ x y z, asGood x y → asGood y z → asGood x z) (yes : ∀ x y, better x y = true → asGood x y)
    (no : ∀ x y, better x y = false → asGood y x) {l : List α} {best : Option α} {g : α}
    (found : l.foldl (pick better) best = some g) :
    (g ∈ l ∨ best = some g) ∧ (∀ x ∈ l, asGood g x) ∧ ∀ b, best = some b → asGood g b := by
  induction l generalizing best with
  | nil =>
    refine ⟨.inr found, nofun, fun b same => ?_⟩
    cases found.symm.trans same
    exact self g
  | cons x xs ih =>
    obtain ⟨mem, rest, start⟩ := ih found
    obtain ⟨y, first⟩ := Option.isSome_iff_exists.1 (pick_isSome (better := better) best x)
    have top := start y first
    have which : (y = x ∨ best = some y) ∧ asGood y x ∧ ∀ b, best = some b → asGood y b := by
      unfold pick at first
      split at first
      · cases first
        exact ⟨.inl rfl, self x, nofun⟩
      next b =>
        split at first
        next won =>
          cases first
          exact ⟨.inl rfl, self x, fun c same => by cases same; exact yes x b won⟩
        next lost =>
          cases first
          exact ⟨.inr rfl, no x y (Bool.eq_false_iff.2 lost), fun c same => by cases same; exact self y⟩
    obtain ⟨origin, beats, before⟩ := which
    refine ⟨?_, List.forall_mem_cons.2 ⟨trans _ _ _ top beats, rest⟩, fun b same => trans _ _ _ top (before b same)⟩
    rcases mem with later | here
    · exact .inl (List.mem_cons_of_mem _ later)
    · obtain rfl : y = g := Option.some.inj (first.symm.trans here)
      rcases origin with rfl | kept
      · exact .inl List.mem_cons_self
      · exact .inr kept

end

theorem evictable_eq (code : Nat) (queue : List TxFrame) :
    evictable code queue = (queue.filter fun g => !g.onLine && code < kindCode g.kind).foldl (pick queuedLater) none := by
  unfold evictable
  congr 1
  funext best g
  cases best <;> rfl

theorem queuedLater_true {x y : TxFrame} (later : queuedLater x y = true) : y.queueTime ≤ x.queueTime := by
  simp only [queuedLater, Bool.or_eq_true, decide_eq_true_eq, Bool.and_eq_true, beq_iff_eq] at later
  rcases later with less | ⟨equal, -⟩
  · exact less.le
  · exact equal.le

theorem queuedLater_false {x y : TxFrame} (no : queuedLater x y = false) : x.queueTime ≤ y.queueTime := by
  simp only [queuedLater, Bool.or_eq_false_iff, decide_eq_false_iff_not, not_lt] at no
  exact no.1

/-- R135: what is evicted is the newest waiting frame of larger kind code. -/
theorem evictable_some {code : Nat} {queue : List TxFrame} {g : TxFrame} (found : evictable code queue = some g) :
    g ∈ queue ∧ g.onLine = false ∧ code < kindCode g.kind ∧
      ∀ h ∈ queue, h.onLine = false → code < kindCode h.kind → h.queueTime ≤ g.queueTime := by
  obtain ⟨mem, older, -⟩ := foldl_pick_some (asGood := fun g h : TxFrame => h.queueTime ≤ g.queueTime)
    (fun _ => le_rfl) (fun _ _ _ one two => two.trans one) (fun _ _ => queuedLater_true) (fun _ _ => queuedLater_false)
    ((evictable_eq code queue).symm.trans found)
  obtain ⟨stands, waits⟩ := List.mem_filter.1 (mem.resolve_right nofun)
  simp only [Bool.and_eq_true, Bool.not_eq_true', decide_eq_true_eq] at waits
  exact ⟨stands, waits.1, waits.2, fun h there off larger => older h (List.mem_filter.2 ⟨there, by simp [off, larger]⟩)⟩

theorem evictable_none {code : Nat} {queue : List TxFrame} (found : evictable code queue = none) :
    ∀ h ∈ queue, h.onLine = false → kindCode h.kind ≤ code := by
  intro h mem off
  have empty := List.filter_eq_nil_iff.1 (foldl_pick_none ((evictable_eq code queue).symm.trans found)) h mem
  simpa [off] using empty

theorem evictable_mem {code : Nat} {queue : List TxFrame} {g : TxFrame} (found : evictable code queue = some g) :
    g ∈ queue := (evictable_some found).1

/-- A queue of frames drawn from the one before and one frame of an admitted kind. -/
theorem framed_leads {t : Station} {f : TxFrame} (admitted : s.link.up = true ∨ f.kind = .recall ∨ f.kind = .report)
    (rest : t.vitals = { s.vitals with frames := t.link.queue.map (·.kind) })
    (fits : s.link.queue.length ≤ 12 → t.link.queue.length ≤ 12)
    (drawn : ∀ g ∈ t.link.queue, g = f ∨ g ∈ s.link.queue) : Leads s t := by
  refine .one ?_
  rw [rest]
  refine .framed (by simpa [Station.vitals] using fits) fun down k hk => ?_
  obtain ⟨g, hg, rfl⟩ := List.mem_map.1 hk
  have isDown : s.link.up = false := down
  rcases drawn g hg with rfl | old
  · exact .inr (admitted.resolve_left (by simp [isDown]))
  · exact .inl (List.mem_map_of_mem old)

/-- An offer enters at most its own frame, keeps the queue within its 12 places, and on a DOWN link enters only RECALL
and REPORT. -/
theorem offer_leads (kind : Kind) (content : List Byte) (owner : Owner) (role : Role) :
    Leads s (s.offer kind content owner role) := by
  unfold Station.offer
  dsimp only
  split
  · exact .of_vitals rfl
  next admits =>
    have admitted : s.link.up = true ∨ kind = .recall ∨ kind = .report := by
      simp only [Bool.and_eq_true, Bool.not_eq_true', decide_eq_true_eq, not_and, not_not] at admits
      by_cases up : s.link.up = true
      · exact .inl up
      · by_cases k : kind = .recall
        · exact .inr (.inl k)
        · exact .inr (.inr (admits ⟨by simpa using up, k⟩))
    split
    next replaces =>
      obtain ⟨tally, g, hg, isTally, waits⟩ : kind = .tally ∧ ∃ g ∈ s.link.queue, g.kind = .tally ∧ g.onLine = false := by
        simpa [waitingTally] using replaces
      refine framed_leads s (f := s.newFrame kind content owner role) admitted rfl (fun fits => ?_) fun x hx => ?_
      · have fewer : (s.link.queue.filter fun g => !(decide (g.kind = .tally) && !g.onLine)).length <
            s.link.queue.length := List.length_filter_lt_length_iff_exists.2 ⟨g, hg, by simp [isTally, waits]⟩
        simp only [insertFrame_length]
        omega
      · exact (mem_insertFrame.1 hx).imp_right fun old => (List.mem_filter.1 old).1
    · split
      next room =>
        refine framed_leads s (f := s.newFrame kind content owner role) admitted rfl (fun _ => ?_) fun x hx => ?_
        · simp only [insertFrame_length]
          omega
        · exact mem_insertFrame.1 hx
      · split
        next g evicted =>
          refine framed_leads s (f := s.newFrame kind content owner role) admitted rfl (fun fits => ?_) fun x hx => ?_
          · have fewer : (removeFrame g.id s.link.queue).length < s.link.queue.length :=
              List.length_filter_lt_length_iff_exists.2 ⟨g, evictable_mem evicted, by simp⟩
            simp only [insertFrame_length, Station.reportFate]
            omega
          · exact (mem_insertFrame.1 hx).imp_right fun old => (List.mem_filter.1 old).1
        · exact .of_vitals rfl

/-- A queue whose frames are of kinds that stood in the queue before, and no more of them. -/
theorem kept_leads {t : Station} (rest : t.vitals = { s.vitals with frames := t.link.queue.map (·.kind) })
    (kinds : (t.link.queue.map (·.kind)).Sublist (s.link.queue.map (·.kind))) : Leads s t := by
  refine .one ?_
  rw [rest]
  exact .framed (fun fits => kinds.length_le.trans fits) fun _ k hk => .inl (kinds.subset hk)

theorem withdrawFrame_leads (id : Nat) : Leads s (s.withdrawFrame id) := by
  refine kept_leads s rfl ?_
  have kinds : (s.withdrawFrame id).link.queue.map (·.kind) =
      (s.link.queue.filter fun g => g.onLine || decide (g.id ≠ id)).map (·.kind) := by
    simp only [Station.withdrawFrame, List.map_map]
    refine List.map_congr_left fun g _ => ?_
    simp only [Function.comp]
    split <;> rfl
  rw [kinds]
  exact List.filter_sublist.map _

theorem waitAgain_leads (id attempts : Nat) : Leads s (s.waitAgain id attempts) := by
  refine kept_leads s rfl ?_
  rw [show (s.waitAgain id attempts).link.queue.map (·.kind) = s.link.queue.map (·.kind) from
    map_updateWhere _ _ _ _ fun _ => rfl]

theorem dropFrame_leads (id : Nat) : Leads s (s.dropFrame id) :=
  kept_leads s rfl (List.filter_sublist.map _)

theorem startAttempt_leads : Leads s s.startAttempt := by
  unfold Station.startAttempt
  dsimp only
  split
  next f rest _ queue =>
    have old : s.link.queue = f :: rest := queue
    refine kept_leads s rfl ?_
    rw [old]
    exact List.Sublist.refl _
  · exact .of_vitals rfl

theorem loseArbitration_leads : Leads s s.loseArbitration := by
  unfold Station.loseArbitration
  split
  · exact .refl s
  · dsimp only
    split
    · exact dropFrame_leads _ _
    · exact waitAgain_leads _ _ _

theorem spoilAttempt_leads : Leads s s.spoilAttempt := by
  unfold Station.spoilAttempt
  split
  · exact .refl s
  · dsimp only
    split
    · exact dropFrame_leads _ _
    · split
      · exact waitAgain_leads _ _ _
      · exact dropFrame_leads _ _

theorem deliverAttempt_leads (f : TxFrame) : Leads s (s.deliverAttempt f) := dropFrame_leads _ _

theorem goDown_leads : Leads s s.goDown := by
  have told (queue : List TxFrame) (b : Station) :
      (queue.foldl (fun s f => s.reportFate f (if f.kind = .claim then .emptied else .notSent)) b).vitals =
        b.vitals := by
    induction queue generalizing b with
    | nil => rfl
    | cons f queue ih => exact (ih _).trans rfl
  refine .one ?_
  unfold Station.goDown
  rw [told]
  exact .wentDown

theorem offerIfUp_leads (kind : Kind) (content : List Byte) (owner : Owner) :
    Leads s (s.offerIfUp kind content owner) := by
  unfold Station.offerIfUp
  split
  · exact offer_leads s _ _ _ _
  · exact .refl s

theorem queueTally_leads : Leads s s.queueTally := by
  unfold Station.queueTally
  split
  · exact offer_leads s _ _ _ _
  · exact .refl s

/-! ### RECOUNT production (R82) -/

theorem produceOne_leads {t : Station} (h : s.produceOne = some t) : Leads s t := by
  unfold Station.produceOne at h
  split at h
  · split at h
    · cases h
    · dsimp only at h
      split at h <;> cases h
      · exact .of_vitals (clearRecount_vitals s _)
      · exact (Leads.of_vitals (clearRecount_vitals s _)).trans (offer_leads _ _ _ _ _)
  · cases h

theorem produceRecounts_leads (fuel : Nat) : Leads s (produceRecounts fuel s) := by
  induction fuel generalizing s with
  | zero => exact .refl s
  | succ n ih =>
    unfold produceRecounts
    split
    · exact .refl s
    next t h => exact (produceOne_leads s h).trans (ih t)

theorem produce_leads : Leads s s.produce := produceRecounts_leads s _

theorem recountReported_leads : Leads s s.recountReported :=
  Leads.trans (t := { s with directory.recounts := s.directory.recounts - 1 }) (.of_vitals rfl) (produce_leads _)

/-! ### The announcement walk (R64) -/

/-- R64: the locker of an announcing CLAIM that has been offered enters the list, and the walk moves on. -/
theorem announced_leads (h : Holding) (walking : s.claims.walk.isSome = true)
    (few : s.claims.announcements.length < 2) :
    Leads (s.offer .claim (claimContent h.party h.locker h.serial (s.lockerSize h.locker)) .claimUnit
      (.announcement h.locker)) (s.announce h) := by
  refine .one ?_
  unfold Station.announce
  dsimp only
  generalize offered : s.offer .claim _ _ _ = t
  have same : t.claims = s.claims := by
    rw [← offered, offer_frame]
  have next := Change.announced (v := t.vitals) (by simpa [Station.vitals, same] using walking)
    (by simpa [Station.vitals, same] using few)
    (if t.lockers.lockers.length < h.locker + 1 then none else some (h.locker + 1)).isSome
  simpa [Station.vitals] using next

theorem walkOne_leads {t : Station} (h : s.walkOne = some t) : Leads s t := by
  unfold Station.walkOne at h
  split at h
  · cases h
  next position walk =>
    split at h
    next few =>
      split at h <;> cases h
      · exact .one .walkEnded
      next g _ =>
        exact (offer_leads s _ _ _ _).trans (announced_leads s g (by rw [walk]; rfl) few)
    · cases h

theorem walkOn_leads (fuel : Nat) : Leads s (walkOn fuel s) := by
  induction fuel generalizing s with
  | zero => exact .refl s
  | succ n ih =>
    unfold walkOn
    split
    · exact .refl s
    next t h => exact (walkOne_leads s h).trans (ih t)

theorem continueWalk_leads : Leads s s.continueWalk := walkOn_leads s _

theorem startWalk_leads (up : s.link.up = true) : Leads s s.startWalk :=
  Leads.trans (s := s) (t := { s with claims.walk := some 1 }) (.one (.walkStarted up)) (continueWalk_leads _)

theorem dropAnnouncement_leads (n : Nat) : Leads s (s.dropAnnouncement n) := by
  unfold Station.dropAnnouncement
  split
  · exact .refl s
  next a _ =>
    refine (withdrawFrame_leads s a.frame).trans (Leads.trans (.one ?_) (continueWalk_leads _))
    exact .unlisted (List.length_filter_le _ _)

end Sys2Proof.Machine

/-!
PROOFS. The chain of single changes that each operation is: the drive, the lockers, the claims, the cabins.
-/

namespace Sys2Proof.Machine

open Sys2Proof

variable (s : Station)

/-! ### The drive arbiter (chapter 8) -/

/-- A request that an output has not, WAITING, enters at the tail. -/
theorem enqueue_leads (o : Nat) (p : DrivePurpose) : Leads s (s.enqueue o p) := by
  unfold Station.enqueue
  split
  · exact .refl s
  next absent =>
    refine .one (.requested _ rfl fun q hq same => absent ?_)
    exact List.find?_isSome.2 ⟨q, hq, by simpa using same⟩

theorem removeRequest_leads (o : Nat) : Leads s (s.removeRequest o) := .one (.withdrawn List.filter_sublist)

/-- A lookup finds a request of the queue. -/
theorem request?_mem {o : Nat} {r : DriveRequest} (h : s.request? o = some r) : r ∈ s.drive.queue :=
  List.mem_of_find?_eq_some h

/-- A pull that ends leaves its slot to rest and its request in another phase. -/
theorem pulled_leads {r : DriveRequest} {slot : Nat} {ends : Moment} (stands : r ∈ s.drive.queue)
    (pull : r.phase = .pull slot ends) (phase : DrivePhase) (ended : ∀ k e, phase ≠ .pull k e) :
    Leads s ((s.restSlot slot).changeRequest r.output fun q => { q with phase }) :=
  .one (.pulled r stands pull (s.now + 20) phase ended)

/-- A pull cut short leaves its slot to rest, and its request leaves the queue. -/
theorem cut_leads {r : DriveRequest} {slot : Nat} {ends : Moment} (stands : r ∈ s.drive.queue)
    (pull : r.phase = .pull slot ends) : Leads s ((s.restSlot slot).removeRequest r.output) := by
  have gone : ((s.restSlot slot).changeRequest r.output fun q => { q with phase := .waiting }).removeRequest r.output =
      (s.restSlot slot).removeRequest r.output := by
    have same : (updateWhere (fun q => decide (q.output = r.output)) (fun q : DriveRequest => { q with phase := .waiting })
        s.drive.queue).filter (fun q => decide (q.output ≠ r.output)) =
        s.drive.queue.filter fun q => decide (q.output ≠ r.output) := by
      induction s.drive.queue with
      | nil => rfl
      | cons q queue ih =>
        simp only [updateWhere, List.map_cons, List.filter_cons] at ih ⊢
        by_cases own : q.output = r.output <;> simpa [own] using ih
    simp only [Station.removeRequest, Station.changeRequest, Station.restSlot]
    rw [same]
  rw [← gone]
  exact (pulled_leads s stands pull .waiting (by simp)).trans (removeRequest_leads _ _)

theorem withdrawDrive_leads (o : Nat) : Leads s (s.withdrawDrive o) := by
  unfold Station.withdrawDrive
  split
  · exact .refl s
  next r found =>
    have own := request?_output s found
    split
    next slot ends pull => exact own ▸ cut_leads s (request?_mem s found) pull
    all_goals exact removeRequest_leads s o

theorem withdrawGrant_leads (n : Nat) (t : Moment) : Leads s (s.withdrawGrant n t) := by
  unfold Station.withdrawGrant
  dsimp only
  have withdrawn (m : Moment) : Leads s ((s.reach m).withdrawDrive (lockerOutput n)) := withdrawDrive_leads (s.reach m) _
  split
  · exact withdrawn t
  · split
    · split
      next ends _ _ => exact withdrawn ends
      · exact withdrawn t
    · exact withdrawn t

theorem enqueueLatch_leads (n : Nat) : Leads s (s.enqueueLatch n) := by
  unfold Station.enqueueLatch
  split
  · exact .refl s
  · exact (enqueue_leads s _ _).trans (.of_vitals (changeCabin_vitals _ _ _ fun _ => rfl))

theorem latchDone_leads (n : Nat) : Leads s (s.latchDone n) := by
  unfold Station.latchDone
  refine .trans ?_ (enqueueLatch_leads _ n)
  exact .of_vitals (changeCabin_vitals s n _ fun _ => rfl)

/-- The slot that a grant gives rests no longer and is in no pull. -/
theorem freeSlot_free {k : Nat} (h : s.freeSlot = some k) : s.vitals.slotFree k := by
  obtain ⟨x, found, rfl⟩ := Option.map_eq_some_iff.1 h
  have test := List.find?_some found
  simp only [Station.slotFree, Bool.and_eq_true, Option.isNone_iff_eq_none, Bool.not_eq_true', List.any_eq_false] at test
  refine ⟨⟨x, List.mem_of_find?_eq_some found, rfl, test.1⟩, fun r hr ends pull => ?_⟩
  have := test.2 r hr
  rw [pull] at this
  simp at this

theorem grantOne_leads {t : Station} (h : s.grantOne = some t) : Leads s t := by
  unfold Station.grantOne at h
  split at h
  · cases h
  next released =>
    split at h
    next slot r free first =>
      split at h <;> cases h
      · exact (removeRequest_leads s _).trans (latchDone_leads _ _)
      · have waits := List.find?_some first
        simp only [Bool.and_eq_true, Bool.not_eq_true'] at waits
        exact .one (.granted r slot _ (Bool.eq_false_iff.2 released) waits.2 (freeSlot_free s free))
    · cases h

theorem grants_leads (fuel : Nat) : Leads s (grants fuel s) := by
  induction fuel generalizing s with
  | zero => exact .refl s
  | succ n ih =>
    unfold grants
    split
    · exact .refl s
    next t h => exact (grantOne_leads s h).trans (ih t)

theorem grantTest_leads : Leads s s.grantTest := grants_leads s _

theorem makeRequest_leads (o : Nat) (p : DrivePurpose) : Leads s (s.makeRequest o p) :=
  (enqueue_leads s o p).trans (grantTest_leads _)

theorem compareLatch_leads (n : Nat) : Leads s (s.compareLatch n) := by
  unfold Station.compareLatch
  split
  · exact .refl s
  · exact (enqueueLatch_leads s n).trans (grantTest_leads _)

theorem setLatchTarget_leads (n : Nat) (target : Option Latch) : Leads s (s.setLatchTarget n target) := by
  unfold Station.setLatchTarget
  dsimp only
  refine Leads.trans (.of_vitals (changeCabin_vitals s n (fun c => { c with latchTarget := target }) fun _ => rfl)) ?_
  split
  · exact compareLatch_leads _ n
  · split
    · exact .refl _
    · split
      · exact .refl _
      · refine .trans ?_ (compareLatch_leads _ n)
        refine .trans (withdrawDrive_leads _ (cabinOutput n)) ?_
        exact .of_vitals (changeCabin_vitals _ n _ fun _ => rfl)

/-! ### Lockers and holdings (chapter 2) -/

theorem endHoldingAt_leads (n : Nat) : Leads s (s.endHoldingAt n) := by
  unfold Station.endHoldingAt
  split
  · exact .refl s
  · dsimp only
    refine Leads.trans
      (t := { s with lockers.holdings := s.lockers.holdings.filter fun g => decide (g.locker ≠ n) })
      (.one (.holdingsEnded (List.filter_sublist.map _))) ?_
    split
    · exact dropAnnouncement_leads _ n
    · split
      · exact offer_leads _ _ _ _ _
      · exact .refl _

theorem freeLocker_vitals (n : Nat) : (s.freeLocker n).vitals = s.vitals := rfl

theorem lockLocker_vitals (n : Nat) : (s.lockLocker n).vitals = s.vitals := rfl

theorem settleLocker_vitals (n : Nat) (state : LockerState) : (s.settleLocker n state).vitals = s.vitals := rfl

theorem countOpening_vitals (n : Nat) : (s.countOpening n).vitals = s.vitals :=
  changeHolding_vitals s n _ fun _ => rfl

theorem returnLocker_vitals (n : Nat) (state : LockerState) : (s.returnLocker n state).vitals = s.vitals := by
  unfold Station.returnLocker
  split <;> rfl

theorem settleUntaken_leads (n : Nat) : Leads s (s.settleUntaken n) := by
  unfold Station.settleUntaken
  split
  · exact .refl s
  · split
    · exact endHoldingAt_leads s n
    · exact .refl s
    · split
      · exact .of_vitals (returnLocker_vitals s n _)
      · exact .refl s
    · exact .refl s

theorem settleTaken_vitals (n : Nat) : (s.settleTaken n).vitals = s.vitals := by
  unfold Station.settleTaken
  split
  · rfl
  · split
    · rfl
    · rfl
    · rfl
    · exact countOpening_vitals _ n

theorem unboltLocker_leads (n : Nat) (p : Purpose) (back : LockerState) (g : Option Moment) :
    Leads s (s.unboltLocker n p back g) :=
  Leads.trans (s := s)
    (t := s.changeLocker n fun l =>
      { l with state := .unbolting, purpose := some p, returnState := some back, grantWait := g, boltWait := none })
    (.of_vitals rfl) (makeRequest_leads _ _ _)

theorem settleHeld_vitals (n : Nat) : (s.settleHeld n).vitals = s.vitals := by
  unfold Station.settleHeld
  split <;> rfl

theorem settleJam_leads (l : Locker) : Leads s (s.settleJam l) := by
  unfold Station.settleJam
  dsimp only
  split
  · exact endHoldingAt_leads s _
  · split <;> exact .refl s
  · exact .refl s
  · exact .refl s
  · exact .of_vitals (settleHeld_vitals s _)

theorem settleWarm_vitals (l : Locker) : (s.settleWarm l).vitals = s.vitals := by
  have drive : (Station.settleWarm.settleDrive s l).vitals = s.vitals := by
    unfold Station.settleWarm.settleDrive
    split
    · exact settleHeld_vitals s _
    · split
      · split <;> rfl
      · rfl
      · rfl
  unfold Station.settleWarm
  split
  · rfl
  · split
    · rfl
    · exact drive
    · exact drive
    all_goals first | exact settleHeld_vitals s _ | rfl

/-- The settlements of the lockers of several aborted holds. -/
theorem settleUntakens_leads (held : List DriveRequest) :
    Leads s (held.foldl (fun s r => s.settleUntaken (r.output + 1)) s) := by
  induction held generalizing s with
  | nil => exact .refl s
  | cons r held ih => exact (settleUntaken_leads s _).trans (ih _)

/-! ### Claims (chapter 3) -/

theorem removeClaim_leads (p : PartyKey) : Leads s (s.removeClaim p) :=
  .one (.claimsEnded (List.filter_sublist.map _))

/-- A claim of the table becomes a holding of its party. -/
theorem confirmed_leads {c : Claim} (stands : c ∈ s.claims.claims) (h : Holding) (party : h.party = c.party) :
    Leads s { s.removeClaim c.party with
      claims := { (s.removeClaim c.party).claims with confirmed := satInc s.claims.confirmed }
      lockers.holdings := s.lockers.holdings ++ [h] } := by
  have change := Change.confirmed (v := s.vitals) c.party (List.mem_map_of_mem stands)
  refine .one ?_
  simpa [Station.vitals, Station.removeClaim, List.filter_map, Function.comp_def, party] using change

/-- R33: the locker table takes a claim whose holding has been added. -/
theorem takeConfirmed_leads {u : Station} (c : Claim) (unannounced : Bool)
    (held : ∀ h : Holding, h.party = c.party → Leads u { s with lockers.holdings := s.lockers.holdings ++ [h] }) :
    Leads u (s.takeConfirmed c unannounced) := by
  unfold Station.takeConfirmed
  dsimp only
  split
  · exact (held _ rfl).trans (unboltLocker_leads _ _ _ _ _)
  · exact held _ rfl

theorem confirmClaim_leads {c : Claim} (stands : c ∈ s.claims.claims) (unannounced : Bool) :
    Leads s (s.confirmClaim c unannounced) := by
  unfold Station.confirmClaim
  refine takeConfirmed_leads _ c unannounced fun h own => ?_
  have held := confirmed_leads s stands h own
  split
  · exact held.trans (deleteDoubtful_leads _ c.party)
  · exact held

theorem failClaim_leads (c : Claim) (t : Text) : Leads s (s.failClaim c t) := removeClaim_leads s _

theorem failRedirected_leads (c : Claim) (bank locker : Nat) : Leads s (s.failRedirected c bank locker) :=
  (failClaim_leads s c _).trans (recordRedirect_leads _ _ _)

theorem withdrawClaim_leads (c : Claim) : Leads s (s.withdrawClaim c) := by
  unfold Station.withdrawClaim
  split
  · exact withdrawFrame_leads s _
  · exact .refl s

/-- A claim is made for a party with no place here, in a table with room. -/
theorem createClaim_leads (tap : Tap) (locker : Nat) (insist : Bool) (few : s.claims.claims.length < 4)
    (unclaimed : s.claimOf tap.party = none) (unheld : s.holdingOf tap.party = none) :
    Leads s (s.createClaim tap locker insist) := by
  have made (c : Claim) (own : c.party = tap.party) : Leads s { s with claims.claims := s.claims.claims ++ [c] } := by
    have change := Change.claimed (v := s.vitals) tap.party (by simpa [Station.vitals] using few)
      (by simpa [Station.vitals, Station.claimOf] using unclaimed)
      (by simpa [Station.vitals, Station.holdingOf] using unheld)
    refine .one ?_
    simpa [Station.vitals, own] using change
  unfold Station.createClaim
  dsimp only
  split
  · refine .trans ?_ (offer_leads _ _ _ _ _)
    exact made _ rfl
  · refine .trans ?_ (confirmClaim_leads _ (List.mem_append_right _ List.mem_cons_self) _)
    exact made _ rfl

/-! ### Cabins (chapter 5) -/

theorem changeCabin_leads (n : Nat) (f : Cabin → Cabin) (keeps : ∀ c, (f c).number = c.number) :
    Leads s (s.changeCabin n f) :=
  .of_vitals (changeCabin_vitals s n f keeps)

theorem reserveCabin_leads (n : Nat) (e : QueueEntry) : Leads s (s.reserveCabin n e) := by
  unfold Station.reserveCabin
  refine .trans ?_ (setLatchTarget_leads _ n (some .latched))
  refine .trans ?_ (changeCabin_leads _ n _ fun _ => rfl)
  exact .of_vitals (changeEntry_vitals s _ _)

theorem freeCabin_leads (n : Nat) : Leads s (s.freeCabin n) := by
  unfold Station.freeCabin
  refine .trans ?_ (setLatchTarget_leads _ n _)
  exact changeCabin_leads s n _ fun _ => rfl

theorem releaseCabin_leads (n : Nat) : Leads s (s.releaseCabin n) := by
  unfold Station.releaseCabin
  split
  · exact reserveCabin_leads s _ _
  · exact freeCabin_leads s _

theorem returnEntry_leads (b : BitVec 24) : Leads s (s.returnEntry b) := by
  unfold Station.returnEntry
  dsimp only
  split
  · refine .trans ?_ (reserveCabin_leads _ _ _)
    exact .of_vitals (changeEntry_vitals s b _)
  · exact .of_vitals (changeEntry_vitals s b _)

theorem occupyCabin_leads (n : Nat) (band : Option (BitVec 24)) : Leads s (s.occupyCabin n band) := by
  unfold Station.occupyCabin
  refine .trans ?_ (setLatchTarget_leads _ n none)
  exact changeCabin_leads s n _ fun _ => rfl

theorem walkIn_leads (n : Nat) : Leads s (s.walkIn n) := by
  unfold Station.walkIn
  split
  · exact occupyCabin_leads s _ _
  · exact (occupyCabin_leads s _ _).trans (returnEntry_leads _ _)

theorem admitCabin_leads (n : Nat) : Leads s (s.admitCabin n) := by
  unfold Station.admitCabin
  split
  · exact occupyCabin_leads s _ _
  · exact (occupyCabin_leads s _ _).trans (removeEntry_leads _ _)

theorem dropReservation_leads (n : Nat) : Leads s (s.dropReservation n) := by
  unfold Station.dropReservation
  split
  · exact .refl s
  · exact removeEntry_leads s _

theorem faultCabin_leads (n : Nat) : Leads s (s.faultCabin n) := by
  unfold Station.faultCabin
  dsimp only
  split
  · exact changeCabin_leads s n _ fun _ => rfl
  · refine .trans ?_ (returnEntry_leads _ _)
    exact changeCabin_leads s n _ fun _ => rfl

theorem latchMissed_leads (n : Nat) (target : Latch) : Leads s (s.latchMissed n target) := by
  unfold Station.latchMissed
  split
  · exact .refl s
  · split
    · exact .refl s
    · refine .trans ?_ (compareLatch_leads _ n)
      refine .trans (withdrawDrive_leads s (cabinOutput n)) ?_
      exact .of_vitals (changeCabin_vitals _ n _ fun _ => rfl)

theorem cabinBack_leads (n : Nat) : Leads s (s.cabinBack n) := by
  unfold Station.cabinBack
  split
  · exact occupyCabin_leads s _ _
  · exact releaseCabin_leads s _

theorem takePresence_leads (n : Nat) : Leads s (s.takePresence n) := by
  unfold Station.takePresence
  split
  · exact walkIn_leads s n
  · exact walkIn_leads s n
  · exact admitCabin_leads s n
  · exact .refl s

theorem compareLatches_leads (count : Nat) : Leads s (s.compareLatches count) := by
  unfold Station.compareLatches
  generalize List.range count = l
  induction l generalizing s with
  | nil => exact .refl s
  | cons i l ih => exact (compareLatch_leads s _).trans (ih _)

/-! ### RECOVERING and a rebuild (chapter 12) -/

theorem enterRecovering_leads : Leads s s.enterRecovering := by
  unfold Station.enterRecovering
  dsimp only
  refine Leads.trans ?_ ((compareLatches_leads _ _).trans (offer_leads _ _ _ _ _))
  refine Leads.trans (t := { s with restart.mode := .recovering }) (.one (.entered nofun)) (.one ?_)
  have ordered : (((List.range s.orders.setup.cabinCount).map fun i => s.newCabin (i + 1)).map (·.number)).Pairwise
      (· < ·) := by
    rw [List.map_map, List.pairwise_map]
    exact (List.pairwise_lt_range).imp fun h => Nat.succ_lt_succ h
  exact .cabinsMade ordered

theorem setupAccepted_leads : Leads s s.setupAccepted := by
  unfold Station.setupAccepted
  split
  · exact enterRecovering_leads s
  · exact .refl s

theorem rebuild_leads (p : PartyKey) (locker : Nat) (b : BitVec 24) (rebuilds : s.rebuilds p locker b = true) :
    Leads s (s.rebuild p locker b) := by
  simp only [Station.rebuilds, Bool.and_eq_true, Option.isNone_iff_eq_none] at rebuilds
  obtain ⟨⟨-, unheld⟩, unclaimed⟩ := rebuilds
  have held (h : Holding) (own : h.party = p) : Leads s { s with lockers.holdings := s.lockers.holdings ++ [h] } := by
    have change := Change.rebuilt (v := s.vitals) p (by simpa [Station.vitals, Station.claimOf] using unclaimed)
      (by simpa [Station.vitals, Station.holdingOf] using unheld)
    refine .one ?_
    simpa [Station.vitals, own] using change
  unfold Station.rebuild
  dsimp only
  split <;> exact held _ rfl

end Sys2Proof.Machine

/-!
PROOFS. The chain of single changes that each command is, but for those that begin or end a start: the reports of
frames, the events of the blocks, the orders, the taps.
-/

namespace Sys2Proof.Machine

open Sys2Proof

variable (s : Station)

/-! ### The reports of frames (R138) -/

theorem linkUp_leads : Leads s s.linkUp := by
  unfold Station.linkUp
  refine .trans ?_ (produce_leads _)
  refine .trans ?_ (startWalk_leads _ rfl)
  exact .one .wentUp

theorem frameHeard_leads : Leads s s.frameHeard := by
  unfold Station.frameHeard
  dsimp only
  split
  · exact linkUp_leads s.clearWatch
  · exact .of_vitals rfl

theorem claimReported_leads (f : TxFrame) (fate : Fate) : Leads s (s.claimReported f fate) := by
  unfold Station.claimReported
  split
  · split
    · exact offerIfUp_leads s _ _ _
    · exact .refl s
  next c found =>
    have stands := List.mem_of_find?_eq_some found
    split
    · exact .of_vitals (changeClaim_vitals s _ _ fun _ => rfl)
    · exact failClaim_leads s c .tryAgain
    · exact confirmClaim_leads s stands _
    · exact confirmClaim_leads s stands _

theorem announcementReported_leads (f : TxFrame) (locker : Nat) (fate : Fate) :
    Leads s (s.announcementReported f locker fate) := by
  have unlisted : Leads s
      { s with claims.announcements := s.claims.announcements.filter fun a => decide (a.frame ≠ f.id) } :=
    .one (.unlisted (List.length_filter_le _ _))
  unfold Station.announcementReported
  dsimp only
  split
  · split
    · refine .trans ?_ (continueWalk_leads _)
      exact unlisted.trans (.of_vitals (changeHolding_vitals _ _ _ fun _ => rfl))
    · split
      · exact offerIfUp_leads s _ _ _
      · exact .refl s
  · split
    · exact unlisted.trans (continueWalk_leads _)
    · exact .refl s

theorem recallReported_vitals (fate : Fate) : (s.recallReported fate).vitals = s.vitals := by
  unfold Station.recallReported
  split <;> rfl

/-- An owner takes a report, or the report is the one that begins the warm start ORDERED. -/
theorem takeReport_leads (r : FrameReport) : Leads s (s.takeReport r) ∨ s.takeReport r = s.beginOrdered := by
  unfold Station.takeReport
  split
  · split
    · exact .inl (announcementReported_leads s _ _ _)
    · exact .inl (claimReported_leads s _ _)
    · exact .inl (.refl s)
  · exact .inl (recountReported_leads s)
  · exact .inl (.of_vitals (recallReported_vitals s _))
  · unfold Station.reportReported
    split
    · split
      · exact .inr rfl
      · exact .inl (.refl s)
    · exact .inl (.refl s)
  all_goals exact .inl (.refl s)

/-- The station is led to the second, or to one at which the warm start ORDERED begins. -/
def LeadsOrOrdered (s t : Station) : Prop := Leads s t ∨ ∃ u, Leads s u ∧ t = u.beginOrdered

theorem LeadsOrOrdered.of_leads {s t : Station} (h : Leads s t) : LeadsOrOrdered s t := .inl h

theorem LeadsOrOrdered.after {s t u : Station} (first : Leads s t) (next : LeadsOrOrdered t u) :
    LeadsOrOrdered s u := by
  rcases next with leads | ⟨v, leads, ordered⟩
  · exact .inl (first.trans leads)
  · exact .inr ⟨v, first.trans leads, ordered⟩

/-- The beginning of a warm start leaves no report waiting. -/
theorem beginOrdered_reports : s.beginOrdered.link.reports = [] := by
  unfold Station.beginOrdered Station.endCause Station.causeEnded
  rfl

theorem takeReports_leads (fuel : Nat) : LeadsOrOrdered s (takeReports fuel s) := by
  induction fuel generalizing s with
  | zero => exact .of_leads (.of_vitals rfl)
  | succ n ih =>
    unfold takeReports
    split
    · exact .of_leads (.refl s)
    next r rest _ =>
      have settled : Leads s { s with link.reports := rest } := .of_vitals rfl
      rcases takeReport_leads { s with link.reports := rest } r with leads | ordered
      · exact .after (settled.trans leads) (ih _)
      · rw [ordered]
        refine .inr ⟨_, settled, ?_⟩
        cases n with
        | zero => rfl
        | succ n =>
          unfold takeReports
          rw [beginOrdered_reports]

theorem finish_leads : LeadsOrOrdered s s.finish := takeReports_leads s _

/-! ### Guards -/

theorem whenLive_leads (f : Station → Station) (h : Leads s (f s)) : Leads s (whenLive f s) := by
  unfold whenLive
  split
  · exact h
  · exact .refl s

theorem whenLoaded_leads (f : Station → Station) (h : Leads s (f s)) : Leads s (whenLoaded f s) := by
  refine whenLive_leads s _ ?_
  split
  · exact h
  · exact .refl s

theorem whenReceiving_leads (f : Station → Station) (h : Leads s (f s)) : Leads s (whenReceiving f s) := by
  unfold whenReceiving
  split
  · exact h
  · exact .refl s

theorem whenTracking_leads (f : Station → Station) (h : Leads s (f s)) : Leads s (whenTracking f s) := by
  rcases Bool.eq_false_or_eq_true (s.live || (match s.restart.phase with
    | .warm _ => true
    | _ => false)) with tracks | rests
  · rw [show whenTracking f s = f s from if_pos tracks]
    exact h
  · rw [show whenTracking f s = s from if_neg (Bool.eq_false_iff.1 rests)]
    exact .refl s

/-! ### The panel (chapter 10) -/

theorem scrollOn_vitals : s.scrollOn.vitals = s.vitals := by
  unfold Station.scrollOn
  dsimp only
  split <;> rfl

theorem panelFrame_vitals : s.panelFrame.vitals = s.vitals := by
  unfold Station.panelFrame Station.countFrame
  dsimp only
  split
  · split
    · rfl
    · split
      · exact (scrollOn_vitals _).trans rfl
      · rfl
  · rfl

theorem cursorEnd_vitals : s.cursorEnd.vitals = s.vitals := by
  unfold Station.cursorEnd
  split <;> rfl

theorem holdEnd_vitals : s.holdEnd.vitals = s.vitals := by
  unfold Station.holdEnd
  split <;> rfl

theorem turnPair_vitals : s.turnPair.vitals = s.vitals := by
  unfold Station.turnPair
  split <;> rfl

theorem cursorOpened_vitals (n : Nat) : (s.cursorOpened n).vitals = s.vitals := by
  unfold Station.cursorOpened
  split <;> rfl

/-! ### The readers (chapter 1) -/

theorem refuseTap_vitals : s.refuseTap.vitals = s.vitals := by
  unfold Station.refuseTap
  split <;> rfl

theorem readerBreak_vitals (r : Reader) : (s.readerBreak r).vitals = s.vitals := by
  unfold Station.readerBreak
  dsimp only
  split
  · exact (refuseTap_vitals _).trans rfl
  · rfl

theorem discardRecord_vitals (r : Reader) : (s.discardRecord r).vitals = s.vitals :=
  (refuseTap_vitals _).trans rfl

theorem handTap_vitals (r : Reader) (tap : Tap) : (s.handTap r tap).vitals = s.vitals := by
  unfold Station.handTap
  dsimp only
  split <;> rfl

theorem present_vitals (r : Reader) (bytes : List Byte) : (s.present r bytes).vitals = s.vitals := by
  unfold Station.present
  split
  · rfl
  · exact (refuseTap_vitals _).trans rfl
  · exact (refuseTap_vitals _).trans rfl
  · split
    · exact (refuseTap_vitals _).trans rfl
    · exact handTap_vitals s _ _

theorem recordComplete_vitals (r : Reader) (bytes : List Byte) : (s.recordComplete r bytes).vitals = s.vitals := by
  unfold Station.recordComplete
  split
  · rfl
  · split
    · exact refuseTap_vitals s
    · split
      · rfl
      · exact (present_vitals _ _ _).trans rfl

theorem readerCharacter_vitals (r : Reader) (b : Byte) (stop : Bool) :
    (s.readerCharacter r b stop).vitals = s.vitals := by
  unfold Station.readerCharacter
  split
  · rfl
  · split
    · exact discardRecord_vitals s r
    · split
      · rfl
      · exact (recordComplete_vitals _ _ _).trans rfl

theorem characterTimeout_vitals (r : Reader) : (s.characterTimeout r).vitals = s.vitals := by
  unfold Station.characterTimeout
  split
  · rfl
  · exact (discardRecord_vitals _ _).trans rfl

/-! ### Taps (chapters 2 and 5) -/

theorem tapHeld_leads (n : Nat) : Leads s (s.tapHeld n) := by
  unfold Station.tapHeld
  split
  · exact (unboltLocker_leads s n .retrieve .locked none).trans (.of_vitals rfl)
  · exact (endHoldingAt_leads s n).trans (.of_vitals rfl)
  all_goals exact .of_vitals rfl

theorem tapNew_leads (tap : Tap) (insist : Bool) (unclaimed : s.claimOf tap.party = none)
    (unheld : s.holdingOf tap.party = none) : Leads s (s.tapNew tap insist) := by
  unfold Station.tapNew
  split
  · exact .of_vitals rfl
  next few =>
    split
    · exact .of_vitals rfl
    · exact createClaim_leads s tap _ insist (Nat.lt_of_not_le few) unclaimed unheld

theorem redirectTap_leads (tap : Tap) (e : DirectoryEntry) : Leads s (s.redirectTap tap e) := by
  unfold Station.redirectTap
  refine .trans ?_ (recordRedirect_leads _ _ _)
  exact touchEntry_leads (s.post (.goToBank e.holder e.locker)) tap.party

theorem insistTap_leads (tap : Tap) (unclaimed : s.claimOf tap.party = none)
    (unheld : s.holdingOf tap.party = none) : Leads s (s.insistTap tap) := by
  unfold Station.insistTap
  refine .trans ?_ (tapNew_leads _ tap true unclaimed unheld)
  exact .trans (.of_vitals (markDoubtful_vitals s tap.party)) (removeRedirect_leads _ _)

theorem lockerTap_leads (tap : Tap) : Leads s (s.lockerTap tap) := by
  unfold Station.lockerTap
  split
  · exact tapHeld_leads s _
  next unheld =>
    split
    · exact .of_vitals (changeClaim_vitals s _ _ fun _ => rfl)
    next unclaimed =>
      split
      · exact tapNew_leads s tap false unclaimed unheld
      · exact redirectTap_leads s tap _
      · exact insistTap_leads s tap unclaimed unheld

theorem admittingTap_leads (c : Cabin) : Leads s (s.admittingTap c) := by
  unfold Station.admittingTap
  split
  · exact .of_vitals rfl
  · dsimp only
    refine .trans ?_ (setLatchTarget_leads _ c.number (some .unlatched))
    split
    · refine .trans ?_ (.of_vitals (changeEntry_vitals _ _ _))
      exact changeCabin_leads s _ _ fun _ => rfl
    · exact changeCabin_leads s _ _ fun _ => rfl

theorem newArrival_leads (tap : Tap) : Leads s (s.newArrival tap) := by
  unfold Station.newArrival
  split
  · exact .of_vitals rfl
  · split
    · exact .of_vitals rfl
    · split
      · exact .of_vitals rfl
      next few =>
        refine .one (.queued fun _ => ?_)
        show (s.cabins.queue ++ [_]).length ≤ 16
        rw [List.length_append, List.length_singleton]
        omega

theorem cabinTap_leads (n : Nat) (tap : Tap) : Leads s (s.cabinTap n tap) := by
  unfold Station.cabinTap
  split
  · exact admittingTap_leads s _
  · split
    · split <;> exact .of_vitals rfl
    · split
      · exact .of_vitals rfl
      · exact newArrival_leads s tap

/-! ### Claims (chapter 3) -/

theorem claimOf_mem {p : PartyKey} {c : Claim} (h : s.claimOf p = some c) : c ∈ s.claims.claims :=
  List.mem_of_find?_eq_some h

theorem claimDeadline_leads (p : PartyKey) : Leads s (s.claimDeadline p) := by
  unfold Station.claimDeadline
  split
  · exact .refl s
  next c _ =>
    split
    · exact .refl s
    · dsimp only
      exact (withdrawClaim_leads (s.reach (c.queueTime + 1000)) c).trans (failClaim_leads _ c .linkBusy)

theorem claimWindow_leads (p : PartyKey) : Leads s (s.claimWindow p) := by
  unfold Station.claimWindow
  split
  · exact .refl s
  next c found =>
    split
    · exact .refl s
    next w _ => exact confirmClaim_leads (s.reach w) (claimOf_mem s found) false

/-! ### The line (chapter 7) -/

theorem ownDelivered_leads : Leads s s.ownDelivered := by
  unfold Station.ownDelivered
  split
  · exact .refl s
  · exact (deliverAttempt_leads s _).trans (frameHeard_leads _)

theorem frameSpoiled_vitals (bytes : List Byte) (check : BitVec 16) : (s.frameSpoiled bytes check).vitals = s.vitals := by
  unfold Station.frameSpoiled
  dsimp only
  split <;> rfl

theorem dominantSpan_leads : Leads s s.dominantSpan := by
  unfold Station.dominantSpan
  dsimp only
  split
  · exact goDown_leads { s with link := { s.link with dominantWatch := 20, spoilSlot := .recessive } }
  · exact .of_vitals rfl

/-! ### Received frames -/

theorem receive_leads (x : BitVec 5) (content : List Byte) (handed : Received → Station → Station)
    (taken : ∀ f t, Leads t (handed f t)) : Leads s (s.receive x content handed) := by
  unfold Station.receive
  dsimp only
  split
  · exact frameHeard_leads s
  · exact (frameHeard_leads s).trans (taken _ _)

theorem learnHeld_leads (f : Received) : Leads s (s.learnHeld f) := by
  unfold Station.learnHeld
  split
  · exact .refl s
  · dsimp only
    split
    · exact learn_leads s _ _ _ _
    · exact .refl s

theorem claimHeld_leads (f : Received) (c : Claim) : Leads s (s.claimHeld f c) := by
  unfold Station.claimHeld
  dsimp only
  split
  · exact (offerIfUp_leads s _ _ _).trans (failRedirected_leads _ _ _ _)
  · exact (withdrawClaim_leads s _).trans (failRedirected_leads _ _ _ _)

theorem setDouble_vitals (h : Holding) : (s.setDouble h).vitals = s.vitals := by
  unfold Station.setDouble
  split
  · rfl
  · exact changeHolding_vitals s h.locker (fun h => { h with double := true }) fun _ => rfl

theorem takeHeld_leads (f : Received) : Leads s (s.takeHeld f) := by
  unfold Station.takeHeld
  dsimp only
  refine .trans (learnHeld_leads s f) ?_
  split
  · exact .refl _
  · split
    · exact claimHeld_leads _ _ _
    · split
      · exact .of_vitals (setDouble_vitals _ _)
      · exact .refl _

theorem takeLetGo_leads (f : Received) : Leads s (s.takeLetGo f) := by
  unfold Station.takeLetGo
  split
  · exact .refl s
  · exact forget_leads s _ _

theorem learnClaim_leads (f : Received) : Leads s (s.learnClaim f) := by
  unfold Station.learnClaim
  split
  · exact .refl s
  · dsimp only
    split
    · exact learn_leads s _ _ _ _
    · exact .refl s

theorem claimClaimed_leads (f : Received) (c : Claim) : Leads s (s.claimClaimed f c) := by
  unfold Station.claimClaimed
  split
  · exact (withdrawClaim_leads s _).trans (failRedirected_leads _ _ _ _)
  · exact offerIfUp_leads s _ _ _

theorem takeClaim_leads (f : Received) : Leads s (s.takeClaim f) := by
  unfold Station.takeClaim
  dsimp only
  refine .trans (learnClaim_leads s f) ?_
  split
  · exact .refl _
  · split
    · exact claimClaimed_leads _ _ _
    · split
      · exact offerIfUp_leads _ _ _ _
      · exact .refl _

theorem takeRecount_leads (f : Received) : Leads s (s.takeRecount f) := by
  unfold Station.takeRecount
  dsimp only
  split
  · exact .refl s
  · split
    · split
      · exact rebuild_leads s _ _ _ ‹_›
      · exact .refl s
    · split
      · exact learn_leads s _ _ _ _
      · exact .refl s

theorem takeRecall_leads (f : Received) : Leads s (s.takeRecall f) :=
  .trans (.of_vitals (markRecount_vitals s _)) (produce_leads _)

theorem takeTally_vitals (f : Received) : (s.takeTally f).vitals = s.vitals := by
  unfold Station.takeTally
  split <;> rfl

/-! ### Orders (chapter 11) -/

theorem queueParts_leads (code : Byte) (o : OrderFrame) (part : Nat) (data : List (List Byte)) :
    Leads s (s.queueParts code o part data) := by
  induction data generalizing s part with
  | nil => exact .refl s
  | cons d data ih => exact (offer_leads s _ _ _ _).trans (ih _ _)

theorem answer_leads (code : Byte) (o : OrderFrame) (a : Answer) : Leads s (s.answer code o a) := by
  unfold Station.answer
  split
  · exact .refl s
  · exact offer_leads s _ _ _ _
  · exact queueParts_leads s _ _ _ _

theorem orderReceived_leads (code : Byte) (o : OrderFrame) (take : Station → Station × Answer)
    (taken : ∀ t, Leads t (take t).1) : Leads s (s.orderReceived code o take) := by
  unfold Station.orderReceived
  dsimp only
  refine .trans (frameHeard_leads s) ?_
  split
  · exact .refl _
  · split
    · exact .refl _
    · split
      · exact answer_leads _ _ _ _
      · exact (taken _).trans (answer_leads _ _ _ _)

theorem testOrder_leads (o : OrderFrame) (need : Nat) (away : Station → Option Answer) (coded : Bool)
    (named : Station → Bool) (act : Station → Station × Answer) (acts : Leads s (act s).1) :
    Leads s (s.testOrder o need away coded named act).1 := by
  unfold Station.testOrder
  split
  · exact .refl s
  · split
    · exact .refl s
    · split
      · exact .refl s
      · split
        · exact .refl s
        · exact acts

theorem takeSetupLockers_leads (o : OrderFrame) : Leads s (s.takeSetupLockers o).1 := by
  unfold Station.takeSetupLockers
  split
  · exact .refl s
  · exact setupAccepted_leads { s with orders := { s.orders with
      setup := lockersTaken o s.orders.setup, lockersLockClosed := true } }

theorem takeSetupCabins_leads (o : OrderFrame) : Leads s (s.takeSetupCabins o).1 :=
  setupAccepted_leads { s with
    orders := { s.orders with setup := cabinsTaken o s.orders.setup, cabinsLockClosed := true }
    cabins := { s.cabins with dwell := (cabinsTaken o s.orders.setup).initialDwell } }

theorem takeOpenLocker_leads (n : Nat) : Leads s (s.takeOpenLocker n).1 := by
  unfold Station.takeOpenLocker
  split
  · exact unboltLocker_leads s _ _ _ _
  · exact unboltLocker_leads s _ _ _ _
  · exact unboltLocker_leads s _ _ _ _
  · exact unboltLocker_leads s _ _ _ _
  all_goals exact .refl s

theorem takeEndHolding_leads (n : Nat) : Leads s (s.takeEndHolding n).1 := by
  unfold Station.takeEndHolding
  split
  · exact endHoldingAt_leads s n
  · exact .refl s

theorem takeLockerOff_leads (n : Nat) : Leads s (s.takeLockerOff n).1 := by
  unfold Station.takeLockerOff
  split <;> exact .of_vitals rfl

theorem takeLockerOn_leads (n : Nat) : Leads s (s.takeLockerOn n).1 := by
  unfold Station.takeLockerOn
  split <;> exact .of_vitals rfl

theorem takeClearLocker_leads (n : Nat) : Leads s (s.takeClearLocker n).1 := by
  unfold Station.takeClearLocker
  split
  · exact .refl s
  · split
    · exact settleJam_leads s _
    · exact .refl s

theorem takeCabinOff_leads (n : Nat) : Leads s (s.takeCabinOff n).1 := by
  unfold Station.takeCabinOff
  split
  · refine .trans ?_ (setLatchTarget_leads _ n none)
    exact changeCabin_leads s n _ fun _ => rfl
  all_goals exact .refl s

theorem takeCabinOn_leads (n : Nat) : Leads s (s.takeCabinOn n).1 := by
  unfold Station.takeCabinOn
  split
  · exact cabinBack_leads s n
  all_goals exact .refl s

theorem takeClearCabin_leads (n : Nat) : Leads s (s.takeClearCabin n).1 := by
  unfold Station.takeClearCabin
  split
  · exact cabinBack_leads s n
  all_goals exact .refl s

theorem takeClearGroup_leads (g : Nat) : Leads s (s.takeClearGroup g).1 := by
  unfold Station.takeClearGroup
  split
  · exact .refl s
  · split
    · refine .trans ?_ (grantTest_leads _)
      refine .one (.groupCleared fun k faulted => ?_)
      rw [clearGroup, BitVec.getLsbD_and, Bool.and_eq_true] at faulted
      exact faulted.1
    · exact .refl s

theorem takeReadLocker_leads (n : Nat) : Leads s (s.takeReadLocker n).1 := by
  unfold Station.takeReadLocker
  split <;> exact .refl s

theorem readCounterPage_leads (page : Byte) : Leads s (s.readCounterPage page).1 := by
  unfold Station.readCounterPage
  dsimp only
  split <;> exact .refl s

theorem takeReadCabins_leads (page : Nat) : Leads s (s.takeReadCabins page).1 := by
  unfold Station.takeReadCabins
  split
  · exact .refl s
  · split
    · split <;> exact .refl s
    · split <;> exact .refl s

theorem takeFindParty_leads (o : OrderFrame) : Leads s (s.takeFindParty o).1 := by
  unfold Station.takeFindParty
  split <;> exact .refl s

/-! ### Timers of the tally unit, the lockers and the cabins -/

theorem tallyTick_leads : Leads s s.tallyTick := by
  unfold Station.tallyTick
  split
  · exact .refl s
  next t _ => exact queueTally_leads (s.reach t)

theorem ageNeighbour_vitals (x : Nat) : (s.ageNeighbour x).vitals = s.vitals := by
  unfold Station.ageNeighbour
  split
  · rfl
  · split <;> rfl

theorem expireRedirect_leads (b : BitVec 24) : Leads s (s.expireRedirect b) := by
  unfold Station.expireRedirect
  split
  · exact .refl s
  next r _ => exact removeRedirect_leads (s.reach (r.moment + 30000)) b

theorem minuteTick_vitals : s.minuteTick.vitals = s.vitals := by
  simp [Station.vitals, Station.minuteTick, Holding.timed]

theorem grantWaitEnd_leads (n : Nat) : Leads s (s.grantWaitEnd n) := by
  unfold Station.grantWaitEnd
  split
  · exact .refl s
  · exact (withdrawGrant_leads s n _).trans (endHoldingAt_leads _ n)

theorem doorWaitEnd_leads (n : Nat) : Leads s (s.doorWaitEnd n) := by
  unfold Station.doorWaitEnd
  split
  · exact .refl s
  next t _ => exact .trans (withdrawDrive_leads (s.reach t) _) (settleUntaken_leads _ n)

theorem boltWaitEnd_vitals (n : Nat) : (s.boltWaitEnd n).vitals = s.vitals := by
  unfold Station.boltWaitEnd
  split
  · rfl
  · dsimp only
    split <;> rfl

theorem openDoor_leads (n : Nat) : Leads s (s.openDoor n) := by
  have taken : Leads s ((s.withdrawDrive (lockerOutput n)).settleTaken n) :=
    (withdrawDrive_leads s _).trans (.of_vitals (settleTaken_vitals _ n))
  unfold Station.openDoor
  split
  · exact taken
  · exact taken
  · exact .of_vitals rfl
  · exact .of_vitals (countOpening_vitals (s.settleLocker n .opened) n)
  · exact .of_vitals (changeHolding_vitals (s.forceDoor n) n _ fun _ => rfl)
  all_goals exact .of_vitals rfl

theorem doorOpened_leads (n : Nat) : Leads s (s.doorOpened n) := by
  have set : Leads s (s.setDoor n false) := .of_vitals (follow_vitals s _)
  unfold Station.doorOpened
  split
  · exact (set.trans (openDoor_leads _ n)).trans (.of_vitals (cursorOpened_vitals _ n))
  · exact set

theorem doorShut_vitals (n : Nat) : (s.doorShut n).vitals = s.vitals := by
  have closed (t : Station) : (t.closeDoor n).vitals = t.vitals := by
    unfold Station.closeDoor Station.secure
    split
    · split <;> rfl
    all_goals rfl
  exact (closed _).trans (follow_vitals s _)

theorem boltMoved_vitals (n : Nat) (engaged : Bool) : (s.boltMoved n engaged).vitals = s.vitals := by
  have bolted (t : Station) : (t.boltIn n).vitals = t.vitals := by
    unfold Station.boltIn
    split
    · rfl
    · split
      · rfl
      · rfl
      · split <;> rfl
      · rfl
  have back (t : Station) : (t.boltOut n).vitals = t.vitals := by
    unfold Station.boltOut
    split <;> rfl
  have set : (s.setBolt n engaged).vitals = s.vitals := follow_vitals s _
  unfold Station.boltMoved
  dsimp only
  split
  · exact (bolted _).trans set
  · exact (back _).trans set

theorem clockTick_vitals : s.clockTick.vitals = s.vitals := by
  have numbers (t : Station) (c : Cabin) : (t.timeCabin c).number = c.number := by
    unfold Station.timeCabin
    split <;> rfl
  simp [Station.vitals, Station.clockTick, Function.comp_def, numbers]

theorem graceEnd_leads (n : Nat) : Leads s (s.graceEnd n) := by
  unfold Station.graceEnd
  split
  · exact .refl s
  next t _ =>
    refine .trans ?_ (releaseCabin_leads _ n)
    exact dropReservation_leads (s.reach t) n

theorem admitEnd_leads (n : Nat) : Leads s (s.admitEnd n) := by
  unfold Station.admitEnd
  split
  · exact .refl s
  next t _ => exact (dropReservation_leads (s.reach t) n).trans (releaseCabin_leads _ n)

theorem vacateEnd_leads (n : Nat) : Leads s (s.vacateEnd n) := by
  unfold Station.vacateEnd
  split
  · exact .refl s
  · split
    · exact .refl s
    next c _ _ t _ =>
      exact releaseCabin_leads { s.reach t with
        cabins := { (s.reach t).cabins with
          dwell := dwellUpdate (s.reach t).cabins.dwell ((s.reach t).measuredDwell c) } } n

theorem cancelVacate_vitals (n : Nat) : (s.cancelVacate n).vitals = s.vitals :=
  changeCabin_vitals s n _ fun c => by split <;> rfl

theorem startVacate_vitals (n : Nat) : (s.startVacate n).vitals = s.vitals :=
  changeCabin_vitals s n _ fun c => by split <;> rfl

theorem setPresence_vitals (n : Nat) (p : Presence) : (s.setPresence n p).vitals = s.vitals :=
  changeCabin_vitals s n _ fun _ => rfl

theorem presenceSeen_vitals (n : Nat) : (s.presenceSeen n).vitals = s.vitals := by
  have set : (s.setPadLevel n true).vitals = s.vitals := follow_vitals s _
  unfold Station.presenceSeen
  dsimp only
  split
  · exact ((cancelVacate_vitals _ n).trans (setPresence_vitals _ n _)).trans set
  · exact set

theorem presenceClear_vitals (n : Nat) : (s.presenceClear n).vitals = s.vitals := by
  have set : (s.setPadLevel n false).vitals = s.vitals := follow_vitals s _
  unfold Station.presenceClear
  dsimp only
  split
  · exact set
  · exact ((startVacate_vitals _ n).trans (setPresence_vitals _ n _)).trans set

theorem presenceConfirmed_leads (n : Nat) : Leads s (s.presenceConfirmed n) := by
  unfold Station.presenceConfirmed
  split
  · exact .refl s
  · refine .trans ?_ (takePresence_leads _ n)
    exact .of_vitals (setPresence_vitals _ n _)

theorem latchMoved_leads (n : Nat) (latched : Bool) : Leads s (s.latchMoved n latched) := by
  unfold Station.latchMoved
  dsimp only
  generalize followed : s.follow _ = t
  have same : Leads s t := followed ▸ .of_vitals (follow_vitals s _)
  refine same.trans (.trans ?_ (compareLatch_leads _ n))
  exact changeCabin_leads t n _ fun _ => rfl

/-! ### The drive's events (chapter 8) -/

/-- A pull ends, its slot rests, and whatever of it stands goes on. -/
theorem boltPulled_leads {r : DriveRequest} {slot : Nat} {ends : Moment} (stands : r ∈ s.drive.queue)
    (pull : r.phase = .pull slot ends) : Leads s ((s.restSlot slot).boltPulled r) := by
  unfold Station.boltPulled
  dsimp only
  split
  · exact (pulled_leads s stands pull .hold nofun).trans (.of_vitals rfl)
  · split
    · exact (pulled_leads s stands pull (.rest (s.now + 200)) nofun).trans (.of_vitals rfl)
    · exact (cut_leads s stands pull).trans (.of_vitals rfl)

theorem latchPulled_leads {r : DriveRequest} {slot : Nat} {ends : Moment} (stands : r ∈ s.drive.queue)
    (pull : r.phase = .pull slot ends) (target : Latch) : Leads s ((s.restSlot slot).latchPulled r target) := by
  unfold Station.latchPulled
  dsimp only
  split
  · exact ((cut_leads s stands pull).trans (latchDone_leads _ _)).trans (grantTest_leads _)
  · split
    · exact (pulled_leads s stands pull (.rest (s.now + 200)) nofun).trans (latchMissed_leads _ _ _)
    · refine .trans ?_ (faultCabin_leads _ _)
      exact cut_leads s stands pull

theorem pullEnd_leads (o : Nat) : Leads s (s.pullEnd o) := by
  unfold Station.pullEnd
  split
  · exact .of_vitals rfl
  · split
    · exact .refl s
    next r found =>
      have stands := request?_mem s found
      split
      next slot ends pull =>
        dsimp only
        split
        · exact boltPulled_leads (s.reach ends) stands pull
        · exact latchPulled_leads (s.reach ends) stands pull _
      · exact .refl s

theorem jamRestEnd_leads (o : Nat) : Leads s (s.jamRestEnd o) := by
  unfold Station.jamRestEnd
  split
  · exact .refl s
  next r found =>
    have own := request?_output s found
    split
    next ends _ =>
      dsimp only
      refine .trans ?_ (grantTest_leads _)
      refine .trans (removeRequest_leads (s.reach ends) o) (.one ?_)
      refine .requested { r with attempt := r.attempt + 1, phase := .waiting } rfl fun q hq => ?_
      simpa [own] using (List.mem_filter.1 hq).2
    · exact .refl s

theorem slotRestEnd_leads (k : Nat) : Leads s (s.slotRestEnd k) := by
  unfold Station.slotRestEnd
  split
  · exact .refl s
  · dsimp only
    refine .trans ?_ (grantTest_leads _)
    exact .one (.slotRested k)

theorem driveFault_leads (g : Nat) (active : Bool) : Leads s (s.driveFault g active) := by
  unfold Station.driveFault Station.abortDrives
  dsimp only
  split
  · refine .trans ?_ (settleUntakens_leads _ _)
    exact .one (.groupFaulted g (s.now + 20))
  · exact .of_vitals rfl

theorem supplyLow_leads : Leads s s.supplyLow := by
  unfold Station.supplyLow Station.abortDrives
  dsimp only
  split
  next held =>
    have change := Change.supplyLower (v := s.vitals) held
    refine .one ?_
    have kept : s.vitals.holdDown = true := held
    rw [← kept]
    exact change
  · refine .trans ?_ (settleUntakens_leads _ _)
    exact .one (.supplyFell (s.now + 20))

theorem supplyRise_leads : Leads s s.supplyRise := .one (.supplyRose (s.now + 100))

theorem supplySag_leads : Leads s s.supplySag := .one .supplySagged

theorem releaseHoldDown_leads : Leads s s.releaseHoldDown := by
  unfold Station.releaseHoldDown
  split
  · exact .refl s
  next t timer =>
    refine .trans ?_ (grantTest_leads _)
    exact .one (.released (by simp [Station.vitals, timer]))

theorem windowClosed_leads : Leads s s.windowClosed := by
  unfold Station.windowClosed
  split
  · exact .refl s
  · exact .one (.entered nofun)

/-! ### The scanner (chapter 9) -/

theorem settleCabin_leads (n : Nat) : Leads s (s.settleCabin n) := by
  unfold Station.settleCabin
  split
  · exact .refl s
  next c _ =>
    split
    · unfold Station.resumeCabin
      refine .trans ?_ (compareLatch_leads _ n)
      split
      · exact takePresence_leads s n
      · exact .of_vitals (startVacate_vitals s n)
    · dsimp only
      have known : Leads s (s.changeCabin n fun d => { d with unsettled := false }) :=
        changeCabin_leads s n _ fun _ => rfl
      have entered (t : Station) (present : Prop) [Decidable present] :
          Leads t (if present then t.occupyCabin n none else t.freeCabin n) := by
        split
        · exact occupyCabin_leads t n none
        · exact freeCabin_leads t n
      refine known.trans ?_
      split
      · exact .refl _
      · exact .refl _
      · split
        · refine .trans ?_ (setLatchTarget_leads _ n none)
          exact changeCabin_leads _ n _ fun _ => rfl
        · exact freeCabin_leads _ n
      · exact entered _ _
      · exact entered _ _
      · exact entered _ _

theorem settleCabins_leads : Leads s s.settleCabins := by
  have fold (l : List Cabin) (t : Station) : Leads t (l.foldl (fun t c => t.settleCabin c.number) t) := by
    induction l generalizing t with
    | nil => exact .refl t
    | cons c l ih => exact (settleCabin_leads t _).trans (ih _)
  unfold Station.settleCabins
  refine .trans (.of_vitals ?_) (fold _ _)
  simp [Station.vitals, Function.comp_def, Station.loadCabin]

theorem settleStart_leads : Leads s s.settleStart := by
  have fold (l : List Locker) (t : Station) : (l.foldl Station.settleWarm t).vitals = t.vitals := by
    induction l generalizing t with
    | nil => rfl
    | cons x l ih => exact (ih _).trans (settleWarm_vitals t x)
  unfold Station.settleStart
  split
  · refine .trans ?_ (settleCabins_leads _)
    exact .of_vitals (fold _ _)
  · exact .refl s

theorem loadFilters_leads : Leads s s.loadFilters := by
  unfold Station.loadFilters
  split
  · refine .trans ?_ (settleStart_leads _)
    exact .of_vitals rfl
  · exact .refl s

theorem takeInstant_leads (event : Instr) : Leads s (s.takeInstant event) := by
  unfold Station.takeInstant
  split
  · exact doorOpened_leads s _
  · exact .of_vitals (doorShut_vitals s _)
  · exact .of_vitals (boltMoved_vitals s _ _)
  · exact latchMoved_leads s _ _
  · exact .of_vitals (presenceSeen_vitals s _)
  · exact .of_vitals (presenceClear_vitals s _)
  · exact .refl s

theorem takeInstants_leads (events : List Instr) : Leads s (events.foldl Station.takeInstant s) := by
  induction events generalizing s with
  | nil => exact .refl s
  | cons e events ih => exact (takeInstant_leads s e).trans (ih _)

theorem finishLoad_leads : Leads s s.finishLoad := by
  unfold Station.finishLoad
  split
  · exact loadFilters_leads (s.take .filterLoadEnd)
  · exact .refl s

theorem sample_leads (levels : Levels) : Leads s (s.sample levels) := by
  unfold Station.sample
  dsimp only
  refine .trans (finishLoad_leads s) ?_
  split
  · unfold Station.filterSample
    split
    · refine .trans ?_ (takeInstants_leads _ _)
      exact .of_vitals rfl
    · exact .of_vitals rfl
  · split <;> exact .of_vitals rfl

end Sys2Proof.Machine

/-!
PROOFS. What each command can do to the fields of which the invariants speak: a chain of single changes, and then at
most the beginning of a warm start, or one of the rows that begin and end a start.
-/

namespace Sys2Proof.Machine

open Sys2Proof

variable {s : Station}

/-! ### Commands that are chains of single changes -/

theorem take_vitals (c : Instr) (s : Station) : (s.take c).vitals = s.vitals := rfl

theorem beginOrdered_losses (s : Station) : s.beginOrdered.link.losses = 0 := by
  unfold Station.beginOrdered Station.endCause Station.causeEnded
  rfl

/-- After a chain the owners take their reports; after a warm start has begun none is left. -/
theorem LeadsOrOrdered.finish {t : Station} (h : LeadsOrOrdered s t) : LeadsOrOrdered s t.finish := by
  rcases h with leads | ⟨u, leads, rfl⟩
  · exact .after leads (finish_leads t)
  · exact .inr ⟨u, leads, finish_settled _ (beginOrdered_reports u)⟩

theorem attemptFailed_leads (s : Station) : LeadsOrOrdered s s.attemptFailed := by
  have finished : LeadsOrOrdered s s.spoilAttempt.finish := .after (spoilAttempt_leads s) (finish_leads _)
  unfold Station.attemptFailed
  rcases finished with leads | ⟨u, leads, ordered⟩
  · dsimp only
    split
    · exact .of_leads (leads.trans (goDown_leads _))
    · exact .of_leads leads
  · simp only [ordered, beginOrdered_losses]
    exact .inr ⟨u, leads, by simp⟩

theorem restartWaitEnd_leads (s : Station) : LeadsOrOrdered s s.restartWaitEnd := by
  unfold Station.restartWaitEnd
  split
  · exact .of_leads (.refl s)
  next w _ => exact .inr ⟨s.reach w.deadline, .of_vitals rfl, rfl⟩

section

variable {c : Instr} {f : Station → Station}

theorem leads_of_perform (meaning : ∀ u, exec c u = perform c f u) (leads : ∀ t, Leads t (f t)) :
    LeadsOrOrdered s (effect c s) := by
  rw [effect_perform meaning]
  exact .of_leads (leads (s.take c))

theorem leads_of_performFinish (meaning : ∀ u, exec c u = performFinish c f u) (leads : ∀ t, LeadsOrOrdered t (f t)) :
    LeadsOrOrdered s (effect c s) := by
  rw [effect_performFinish meaning]
  exact LeadsOrOrdered.finish (s := s) (leads (s.take c))

/-- A row that acts only while the blocks run. -/
theorem leads_of_live (meaning : ∀ u, exec c u = perform c (whenLive f) u) (leads : ∀ t, Leads t (f t)) :
    LeadsOrOrdered s (effect c s) :=
  leads_of_perform meaning fun t => whenLive_leads t f (leads t)

theorem leads_of_liveFinish (meaning : ∀ u, exec c u = performFinish c (whenLive f) u)
    (leads : ∀ t, LeadsOrOrdered t (f t)) : LeadsOrOrdered s (effect c s) := by
  refine leads_of_performFinish meaning fun t => ?_
  unfold whenLive
  split
  · exact leads t
  · exact .of_leads (.refl t)

theorem leads_of_order {code : Byte} {o : OrderFrame} {take : Station → Station × Answer}
    (meaning : ∀ u, exec c u = performOrder c code o take u) (leads : ∀ t, Leads t (take t).1) :
    LeadsOrOrdered s (effect c s) :=
  leads_of_liveFinish meaning fun t => .of_leads (orderReceived_leads t code o take leads)

/-- An ORDER that passes the tests of R180 does what its own rule says. -/
theorem leads_of_tested {code : Byte} {o : OrderFrame} {need : Nat} {away : Station → Option Answer} {coded : Bool}
    {named : Station → Bool} {act : Station → Station × Answer}
    (meaning : ∀ u, exec c u = performOrder c code o (Station.testOrder o need away coded named act) u)
    (leads : ∀ t, Leads t (act t).1) : LeadsOrOrdered s (effect c s) :=
  leads_of_order meaning fun t => testOrder_leads t o need away coded named act (leads t)

theorem leads_of_loaded (meaning : ∀ u, exec c u = perform c (whenLoaded f) u) (leads : ∀ t, Leads t (f t)) :
    LeadsOrOrdered s (effect c s) :=
  leads_of_perform meaning fun t => whenLoaded_leads t f (leads t)

theorem leads_of_receiving (meaning : ∀ u, exec c u = perform c (whenReceiving f) u)
    (same : ∀ t, (f t).vitals = t.vitals) : LeadsOrOrdered s (effect c s) :=
  leads_of_perform meaning fun t => whenReceiving_leads t f (.of_vitals (same t))

theorem leads_of_received {x : BitVec 5} {content : List Byte} {handed : Received → Station → Station}
    (meaning : ∀ u, exec c u = performFinish c (whenLive (Station.receive x content handed)) u)
    (leads : ∀ r t, Leads t (handed r t)) : LeadsOrOrdered s (effect c s) :=
  leads_of_liveFinish meaning fun t => .of_leads (receive_leads t x content handed leads)

end

/-- The rows by which a start begins or ends (R195, R196). -/
def startRow : Instr → Bool
  | .logicSupplyLow => true
  | .logicSupplyLost => true
  | .logicSupplyRestored _ _ => true
  | .resetLineLow => true
  | .warmStartEnd _ _ _ => true
  | _ => false

theorem endCause_vitals (s : Station) : s.endCause.vitals = s.vitals := by
  unfold Station.endCause
  split
  · split <;> rfl
  · rfl
  · rfl

/-- Every other row is a chain of single changes, after which at most the warm start ORDERED begins. -/
theorem effect_leads (c : Instr) (ordinary : startRow c = false) (s : Station) : LeadsOrOrdered s (effect c s) := by
  match c with
  | .readerBreak r => exact leads_of_receiving (fun _ => rfl) (readerBreak_vitals · r)
  | .readerCharacter r b stop => exact leads_of_receiving (fun _ => rfl) (readerCharacter_vitals · r b stop)
  | .readerCharacterTimeout r => exact leads_of_receiving (fun _ => rfl) (characterTimeout_vitals · r)
  | .lockerTap tap =>
    refine leads_of_performFinish (f := fun t => if t.serving then (t.reach tap.time).lockerTap tap else t)
      (fun _ => rfl) fun t => .of_leads ?_
    split
    · exact lockerTap_leads (t.reach tap.time) tap
    · exact .refl t
  | .cabinTap n tap =>
    refine leads_of_perform (f := fun t => if t.serving then (t.reach tap.time).cabinTap n tap else t)
      (fun _ => rfl) fun t => ?_
    split
    · exact cabinTap_leads (t.reach tap.time) n tap
    · exact .refl t
  | .claimSendDeadline p => exact leads_of_liveFinish (fun _ => rfl) fun t => .of_leads (claimDeadline_leads t p)
  | .claimWindowEnd p => exact leads_of_liveFinish (fun _ => rfl) fun t => .of_leads (claimWindow_leads t p)
  | .frameAttemptStart => exact leads_of_live (fun _ => rfl) startAttempt_leads
  | .arbitrationLost => exact leads_of_live (fun _ => rfl) loseArbitration_leads
  | .bitError => exact leads_of_liveFinish (fun _ => rfl) attemptFailed_leads
  | .ownFrameDelivered => exact leads_of_liveFinish (fun _ => rfl) fun t => .of_leads (ownDelivered_leads t)
  | .attemptSpoiled => exact leads_of_liveFinish (fun _ => rfl) attemptFailed_leads
  | .frameSpoiled bytes check =>
    exact leads_of_live (fun _ => rfl) fun t => .of_vitals (frameSpoiled_vitals t bytes check)
  | .frameBroken _ => exact leads_of_live (f := Station.clearWatch) (fun _ => rfl) fun t => .of_vitals rfl
  | .frameDiscarded _ _ _ => exact leads_of_liveFinish (fun _ => rfl) fun t => .of_leads (frameHeard_leads t)
  | .heldReceived _ _ => exact leads_of_received (fun _ => rfl) fun r t => takeHeld_leads t r
  | .yieldReceived _ _ => exact leads_of_received (fun _ => rfl) fun r t => takeLetGo_leads t r
  | .freeReceived _ _ => exact leads_of_received (fun _ => rfl) fun r t => takeLetGo_leads t r
  | .claimReceived _ _ => exact leads_of_received (fun _ => rfl) fun r t => takeClaim_leads t r
  | .recountReceived _ _ => exact leads_of_received (fun _ => rfl) fun r t => takeRecount_leads t r
  | .recallReceived _ _ => exact leads_of_received (fun _ => rfl) fun r t => takeRecall_leads t r
  | .tallyReceived _ _ => exact leads_of_received (fun _ => rfl) fun r t => .of_vitals (takeTally_vitals t r)
  | .orderBadCode code o =>
    refine leads_of_order (code := code) (o := o) (fun _ => rfl) fun t => ?_
    split <;> exact .refl t
  | .setupLockers o => exact leads_of_tested (fun _ => rfl) (takeSetupLockers_leads · o)
  | .setupCabins o => exact leads_of_tested (fun _ => rfl) (takeSetupCabins_leads · o)
  | .setDay o => exact leads_of_tested (act := Station.takeSetDay o) (fun _ => rfl) fun t => .of_vitals rfl
  | .openLocker o => exact leads_of_tested (fun _ => rfl) (takeOpenLocker_leads · _)
  | .endHolding o => exact leads_of_tested (fun _ => rfl) (takeEndHolding_leads · _)
  | .lockerServiceOff o => exact leads_of_tested (fun _ => rfl) (takeLockerOff_leads · _)
  | .lockerServiceOn o => exact leads_of_tested (fun _ => rfl) (takeLockerOn_leads · _)
  | .cabinServiceOff o => exact leads_of_tested (fun _ => rfl) (takeCabinOff_leads · _)
  | .cabinServiceOn o => exact leads_of_tested (fun _ => rfl) (takeCabinOn_leads · _)
  | .clearFaultLocker o => exact leads_of_tested (fun _ => rfl) (takeClearLocker_leads · _)
  | .clearFaultCabin o => exact leads_of_tested (fun _ => rfl) (takeClearCabin_leads · _)
  | .clearFaultGroup o => exact leads_of_tested (fun _ => rfl) (takeClearGroup_leads · _)
  | .takeCountersSnapshot o => exact leads_of_tested (act := Station.takeSnapshot) (fun _ => rfl) fun t => .of_vitals rfl
  | .readCounters o => exact leads_of_tested (fun _ => rfl) (readCounterPage_leads · _)
  | .readLocker o => exact leads_of_tested (fun _ => rfl) (takeReadLocker_leads · _)
  | .readCabins o => exact leads_of_tested (fun _ => rfl) (takeReadCabins_leads · _)
  | .findParty o => exact leads_of_tested (fun _ => rfl) (takeFindParty_leads · _)
  | .restart o => exact leads_of_tested (act := Station.takeRestart) (fun _ => rfl) fun t => .of_vitals rfl
  | .restartWaitExpiry => exact leads_of_liveFinish (fun _ => rfl) restartWaitEnd_leads
  | .tallyTimer => exact leads_of_liveFinish (fun _ => rfl) fun t => .of_leads (tallyTick_leads t)
  | .neighbourStale x => exact leads_of_live (fun _ => rfl) fun t => .of_vitals (ageNeighbour_vitals t x)
  | .redirectRecordExpiry b => exact leads_of_live (fun _ => rfl) (expireRedirect_leads · b)
  | .dominantWatchExpiry =>
    exact leads_of_performFinish (fun _ => rfl) fun t => .of_leads (whenTracking_leads t _ (dominantSpan_leads t))
  | .recessiveSpan => exact leads_of_perform (fun _ => rfl) fun t => whenTracking_leads t _ (.of_vitals rfl)
  | .minuteTick => exact leads_of_live (fun _ => rfl) fun t => .of_vitals (minuteTick_vitals t)
  | .grantWaitExpiry n => exact leads_of_liveFinish (fun _ => rfl) fun t => .of_leads (grantWaitEnd_leads t n)
  | .doorWaitExpiry n => exact leads_of_liveFinish (fun _ => rfl) fun t => .of_leads (doorWaitEnd_leads t n)
  | .boltWaitExpiry n => exact leads_of_live (fun _ => rfl) fun t => .of_vitals (boltWaitEnd_vitals t n)
  | .doorOpened n => exact leads_of_loaded (fun _ => rfl) (doorOpened_leads · n)
  | .doorClosed n => exact leads_of_loaded (fun _ => rfl) fun t => .of_vitals (doorShut_vitals t n)
  | .boltEvent n engaged => exact leads_of_loaded (fun _ => rfl) fun t => .of_vitals (boltMoved_vitals t n engaged)
  | .pullEnd o => exact leads_of_live (fun _ => rfl) (pullEnd_leads · o)
  | .jamRestEnd o => exact leads_of_live (fun _ => rfl) (jamRestEnd_leads · o)
  | .slotRestEnd k => exact leads_of_live (fun _ => rfl) (slotRestEnd_leads · k)
  | .driveFault g active =>
    exact leads_of_performFinish (fun _ => rfl) fun t => .of_leads (driveFault_leads t g active)
  | .driveSupplyLow => exact leads_of_performFinish (fun _ => rfl) fun t => .of_leads (supplyLow_leads t)
  | .driveSupplyRise => exact leads_of_perform (fun _ => rfl) supplyRise_leads
  | .driveSupplySag => exact leads_of_perform (fun _ => rfl) supplySag_leads
  | .holdDownRelease => exact leads_of_perform (fun _ => rfl) releaseHoldDown_leads
  | .cabinClockTick => exact leads_of_live (fun _ => rfl) fun t => .of_vitals (clockTick_vitals t)
  | .graceExpiry n => exact leads_of_live (fun _ => rfl) (graceEnd_leads · n)
  | .admitTimerExpiry n => exact leads_of_live (fun _ => rfl) (admitEnd_leads · n)
  | .vacateTimerExpiry n => exact leads_of_live (fun _ => rfl) (vacateEnd_leads · n)
  | .presenceSeen n => exact leads_of_loaded (fun _ => rfl) fun t => .of_vitals (presenceSeen_vitals t n)
  | .presenceConfirmed n => exact leads_of_loaded (fun _ => rfl) (presenceConfirmed_leads · n)
  | .presenceClear n => exact leads_of_loaded (fun _ => rfl) fun t => .of_vitals (presenceClear_vitals t n)
  | .latchEvent n latched => exact leads_of_loaded (fun _ => rfl) (latchMoved_leads · n latched)
  | .cursorTimerExpiry => exact leads_of_live (fun _ => rfl) fun t => .of_vitals (cursorEnd_vitals t)
  | .messageHoldExpiry => exact leads_of_live (fun _ => rfl) fun t => .of_vitals (holdEnd_vitals t)
  | .pairTurn => exact leads_of_live (fun _ => rfl) fun t => .of_vitals (turnPair_vitals t)
  | .scrollStep => exact leads_of_live (fun _ => rfl) fun t => .of_vitals (scrollOn_vitals t)
  | .recoveryWindowExpiry => exact leads_of_live (fun _ => rfl) windowClosed_leads
  | .logicSupplyLow => cases ordinary
  | .logicSupplyLost => cases ordinary
  | .logicSupplyRestored _ _ => cases ordinary
  | .resetLineLow => cases ordinary
  | .resetLineHigh =>
    exact leads_of_perform (f := fun t => ({ t with restart.resetLineLow := false } : Station).endCause)
      (fun _ => rfl) fun t => .of_vitals ((endCause_vitals _).trans rfl)
  | .warmStartEnd _ _ _ => cases ordinary
  | .filterLoadEnd => exact leads_of_live (fun _ => rfl) loadFilters_leads
  | .panelFrame => exact leads_of_perform (fun _ => rfl) fun t => .of_vitals (panelFrame_vitals t)
  | .senseSample levels => exact leads_of_live (fun _ => rfl) (sample_leads · levels)

end Sys2Proof.Machine

/-!
PROOFS. The invariants that every step keeps (O4 to O7): what the single changes keep and what the beginning and the
end of a start keep, every command keeps.
-/

namespace Sys2Proof.Machine

open Sys2Proof

/-! ### The rows by which a start begins or ends (R193, R195, R196) -/

/-- The changes by which a start begins or ends. -/
inductive Start (v : Vitals) : Vitals → Prop
  /-- R195: a start begins, and each block loses what a start loses. -/
  | lost {phase : Phase} (begun : phase ≠ .running) :
      Start v { v with
        requests := [], slots := DriveArbiter.resetSlots, frames := [], up := true, announced := 0,
        walking := false, cached := 0, redirected := 0, queued := 0, phase }
  /-- R193: a cold start. -/
  | cold {releaseAt : Option Moment} {mode : Mode} {latches : BitVec 4}
      (timed : releaseAt.isSome = true → v.driveSupply = .high) :
      Start v
        { holdDown := true, releaseAt, driveSupply := v.driveSupply, phase := .running, mode, requests := [],
          slots := DriveArbiter.resetSlots, latches, frames := [], up := true, claims := [], holdings := [],
          announced := 0, walking := false, cached := 0, redirected := 0, queued := 0, cabins := [] }
  /-- R196: a warm start completes. -/
  | completed {mode : Mode} {latches : BitVec 4} : Start v { v with phase := .running, mode, latches }

/-- The first station's vitals lead to the second's by single changes and the beginnings and ends of starts. -/
def Course (s t : Station) : Prop := Relation.ReflTransGen (fun v w => Change v w ∨ Start v w) s.vitals t.vitals

namespace Course

variable {s t u : Station}

theorem of_leads (h : Leads s t) : Course s t := Relation.ReflTransGen.mono (fun _ _ => .inl) _ _ h

theorem start (h : Start s.vitals t.vitals) : Course s t := .single (.inr h)

theorem trans (first : Course s t) (next : Course t u) : Course s u := Relation.ReflTransGen.trans first next

/-- A property of vitals that single changes and starts keep. -/
theorem keeps {I : Vitals → Prop} (course : Course s t) (change : ∀ v w, I v → Change v w → I w)
    (start : ∀ v w, I v → Start v w → I w) (i : I s.vitals) : I t.vitals := by
  have run {v w : Vitals} (chain : Relation.ReflTransGen (fun v w => Change v w ∨ Start v w) v w) (iv : I v) : I w := by
    induction chain with
    | refl => exact iv
    | tail _ one ih => exact one.elim (change _ _ ih) (start _ _ ih)
  exact run course i

end Course

variable (s : Station)

theorem beginWarm_start (cause : StartCause) : Start s.vitals (s.beginWarm cause).vitals := by
  have lost := Start.lost (v := s.vitals) (phase := .warm cause) nofun
  simpa [Station.vitals, Station.beginWarm, Station.loseVolatile, Function.comp_def, Cabin.kept] using lost

theorem beginOrdered_start : Start s.vitals s.beginOrdered.vitals := by
  rw [Station.beginOrdered, endCause_vitals]
  exact beginWarm_start s .ordered

theorem LeadsOrOrdered.course {s t : Station} (h : LeadsOrOrdered s t) : Course s t := by
  rcases h with leads | ⟨u, leads, rfl⟩
  · exact .of_leads leads
  · exact (Course.of_leads leads).trans (.start (beginOrdered_start u))

/-- R195: the state that the loss of the logic supply leaves. -/
theorem supplyLost_start :
    Start s.vitals ({ s.loseVolatile with
      restart := { s.loseVolatile.restart with logicSupply := .lost, phase := .off } } : Station).vitals := by
  have lost := Start.lost (v := s.vitals) (phase := .off) nofun
  simpa [Station.vitals, Station.loseVolatile, Function.comp_def, Cabin.kept] using lost

/-- R193: a cold start, and then its TALLY. -/
theorem coldStart_begins (cause : StartCause) (strap : BitVec 5) (zone : BitVec 3) :
    ∃ t : Station, Start s.vitals t.vitals ∧ t.drive.queue = [] ∧ t.link.queue = [] ∧ t.link.reports = [] ∧
      t.live = validStrap strap ∧
      s.coldStart cause strap zone = if validStrap strap then t.queueTally else t := by
  refine ⟨_, ?_, ?_, ?_, ?_, ?_, rfl⟩
  · exact Start.cold fun timed => by
      simp only [Station.coldRelease] at timed
      split at timed
      · assumption
      · cases timed
  · rfl
  · rfl
  · rfl
  · simp only [Station.live, Station.reset]
    cases validStrap strap <;> rfl

theorem coldStart_course (cause : StartCause) (strap : BitVec 5) (zone : BitVec 3) :
    Course s (s.coldStart cause strap zone) := by
  obtain ⟨t, start, -, -, -, -, e⟩ := coldStart_begins s cause strap zone
  rw [e]
  split
  · exact (Course.start start).trans (.of_leads (queueTally_leads t))
  · exact .start start

/-- R67: the claims are voided, and a walk starts on a link that is UP. -/
theorem voidClaims_leads : Leads s s.voidClaims := by
  have voided (c : Claim) (t : Station) : Leads t (t.voidClaim c) := by
    unfold Station.voidClaim
    split
    · exact .of_vitals rfl
    · exact offerIfUp_leads t.countYielded _ _ _
  have fold (l : List Claim) (t : Station) : Leads t (l.foldl Station.voidClaim t) := by
    induction l generalizing t with
    | nil => exact .refl t
    | cons c l ih => exact (voided c t).trans (ih _)
  unfold Station.voidClaims
  dsimp only
  have emptied (t : Station) : Leads t { t with claims.claims := [] } := .one (.claimsEnded (List.nil_sublist _))
  refine (fold s.claims.claims s).trans ((emptied _).trans ?_)
  split
  next up => exact startWalk_leads _ up
  · exact .refl _

theorem resumeClocks_vitals : s.resumeClocks.vitals = s.vitals := by
  unfold Station.resumeClocks
  split <;> rfl

/-- R196: what every block has again when a warm start completes. -/
def Station.rejoined (cause : StartCause) (strap : BitVec 5) (zone : BitVec 3) (s : Station) : Station :=
  { s with
    restart.phase := .running
    restart.station := strap.toNat
    restart.zone := zone
    restart.cause := cause
    restart.warmStarts := satInc s.restart.warmStarts
    panel := { s.panel with frameDue := s.now * 8 + 125 } }

/-- R196: what the blocks of a station with a valid strap resume with. -/
def Station.resumed (strap : BitVec 5) (s : Station) : Station :=
  { s with
    restart.mode := s.resumedMode
    restart.settleDue := true
    drive.latches := s.drive.latches ||| s.drive.inputs
    scan.sampleDue := s.now + s.orders.setup.filterInterval
    cabins.cabins := s.cabins.cabins.map fun c : Cabin => { c with unsettled := true }
    tally.neighbours := neighboursOf strap.toNat
    tally.timer := some (s.now + 2000) }

/-- R67, R196, R197: what the blocks do as they resume. -/
def Station.resumedActs (recovering : Bool) (s : Station) : Station :=
  let voided := if s.restart.mode = .run then s.voidClaims else s
  let called := if recovering && !voided.restart.recallDelivered then voided.queueRecall else voided
  called.composeLine.queueTally

/-- R192: what STRAP_FAULT leaves. -/
def Station.strapFaulted (s : Station) : Station :=
  { s with
    restart.mode := .strapFault
    tally.neighbours := []
    panel := { s.panel with line := Text.window .strapFault 0 } }

theorem completeWarm_eq (cause : StartCause) (strap : BitVec 5) (zone : BitVec 3) :
    s.completeWarm cause strap zone =
      if validStrap strap then
        ((s.rejoined cause strap zone).resumeClocks.countHeld.resumed strap).resumedActs
          (decide (s.restart.mode = .recovering))
      else (s.rejoined cause strap zone).strapFaulted := rfl

theorem resumedActs_leads (recovering : Bool) : Leads s (s.resumedActs recovering) := by
  have voided : Leads s (if s.restart.mode = .run then s.voidClaims else s) := by
    split
    · exact voidClaims_leads s
    · exact .refl s
  have called (t : Station) : Leads t (if recovering && !t.restart.recallDelivered then t.queueRecall else t) := by
    split
    · exact offer_leads t _ _ _ _
    · exact .refl t
  unfold Station.resumedActs
  dsimp only
  refine .trans ?_ (queueTally_leads _)
  refine .trans ?_ (.of_vitals rfl : Leads _ (Station.composeLine _))
  exact voided.trans (called _)

theorem resumed_start (cause : StartCause) (strap : BitVec 5) (zone : BitVec 3) :
    Start s.vitals ((s.rejoined cause strap zone).resumeClocks.countHeld.resumed strap).vitals := by
  have clocks : (s.rejoined cause strap zone).resumeClocks.countHeld.vitals = (s.rejoined cause strap zone).vitals :=
    resumeClocks_vitals _
  generalize (s.rejoined cause strap zone).resumeClocks.countHeld = t at clocks
  have fields : (t.resumed strap).vitals =
      { t.vitals with mode := t.resumedMode, latches := t.drive.latches ||| t.drive.inputs } := by
    simp [Station.vitals, Station.resumed, Function.comp_def]
  rw [fields, clocks]
  exact .completed

theorem resumedMode_sound : s.resumedMode ≠ .strapFault := by
  unfold Station.resumedMode
  split <;> nofun

theorem resumeClocks_apart :
    s.resumeClocks.drive = s.drive ∧ s.resumeClocks.link = s.link ∧ s.resumeClocks.restart.phase = s.restart.phase := by
  unfold Station.resumeClocks
  split <;> exact ⟨rfl, rfl, rfl⟩

/-- R196: a warm start completes: the blocks resume in RUN or UNSET with what they then do, or STRAP_FAULT begins. -/
theorem completeWarm_begins (cause : StartCause) (strap : BitVec 5) (zone : BitVec 3) :
    ∃ t : Station, Start s.vitals t.vitals ∧ t.drive.queue = s.drive.queue ∧ t.link.queue = s.link.queue ∧
      t.link.reports = s.link.reports ∧ (t.live = true ∨ s.completeWarm cause strap zone = t) ∧
      Leads t (s.completeWarm cause strap zone) := by
  rw [completeWarm_eq]
  split
  · have clocks := resumeClocks_apart (s.rejoined cause strap zone)
    refine ⟨_, resumed_start s cause strap zone, ?_, ?_, ?_, .inl ?_, resumedActs_leads _ _⟩
    · exact congrArg (·.queue) clocks.1
    · exact congrArg (·.queue) clocks.2.1
    · exact congrArg (·.reports) clocks.2.1
    · have running : ((s.rejoined cause strap zone).resumeClocks.countHeld.resumed strap).restart.phase = .running :=
        clocks.2.2
      have mode := resumedMode_sound (s.rejoined cause strap zone).resumeClocks.countHeld
      simp only [Station.live, running]
      exact Bool.and_eq_true_iff.2 ⟨rfl, decide_eq_true mode⟩
  · exact ⟨(s.rejoined cause strap zone).strapFaulted, .completed, rfl, rfl, rfl, .inr rfl, .refl _⟩

end Sys2Proof.Machine

/-!
PROOFS. Every step keeps the slots sound, the tables within their sizes, one place for a party and the supply watched
(O4 to O7): each invariant is said of the vitals, and each single change and each start keeps it.
-/

namespace Sys2Proof.Machine

open Sys2Proof

/-! ### Every command is a course -/

theorem beginWarm_course (s : Station) (cause : StartCause) : Course s (s.beginWarm cause) :=
  .start (beginWarm_start s cause)

theorem causeArrives_course (s : Station) (cause : StartCause) : Course s (s.causeArrives cause) := by
  unfold Station.causeArrives
  split
  · exact .of_leads (.refl s)
  · exact beginWarm_course s cause

/-- The straps are read. -/
theorem pinned_course (s : Station) (supply : LogicSupply) (strap : BitVec 5) (zone : BitVec 3) :
    Course s { s with restart.logicSupply := supply, restart.strapPins := strap, restart.zonePins := zone } :=
  .of_leads (.of_vitals rfl)

theorem supplyRestored_course (s : Station) (strap : BitVec 5) (zone : BitVec 3) :
    Course s (s.supplyRestored strap zone) := by
  unfold Station.supplyRestored
  have pinned := pinned_course s .normal strap zone
  dsimp only
  split
  · exact pinned.trans (coldStart_course _ _ _ _)
  · exact pinned.trans (.of_leads (.of_vitals (endCause_vitals _)))

theorem warmEnd_course (s : Station) (strap : BitVec 5) (zone : BitVec 3) (damage : BitVec 16) :
    Course s (s.warmEnd strap zone damage) := by
  have stays : Course s s := .of_leads (.refl s)
  unfold Station.warmEnd
  split
  · split
    · have pinned : Leads s { s with restart.strapPins := strap, restart.zonePins := zone } := .of_vitals rfl
      dsimp only
      split
      · obtain ⟨t, start, -, -, -, -, leads⟩ :=
          completeWarm_begins { s with restart.strapPins := strap, restart.zonePins := zone } _ strap zone
        exact (Course.of_leads pinned).trans ((Course.start start).trans (.of_leads leads))
      · exact (Course.of_leads pinned).trans (coldStart_course _ _ _ _)
    · exact stays
  · exact stays
  · exact stays

theorem Course.finish {s t : Station} (course : Course s t) : Course s t.finish :=
  course.trans (finish_leads t).course

theorem taken (c : Instr) {s t : Station} (course : Course (s.take c) t) : Course s t :=
  (Course.of_leads (.of_vitals (take_vitals c s))).trans course

/-- Every command leads by single changes and starts. -/
theorem effect_course (c : Instr) (s : Station) : Course s (effect c s) := by
  cases row : startRow c with
  | false => exact (effect_leads c row s).course
  | true =>
    unfold startRow at row
    split at row
    next =>
      rw [effect_perform (f := fun t => ({ t with restart.logicSupply := .low } : Station).causeArrives .supplyLow)
        (fun _ => rfl)]
      exact taken _ (.trans (.of_leads (.of_vitals rfl)) (causeArrives_course { s.take _ with restart.logicSupply := .low } _))
    next =>
      rw [effect_perform (f := fun t => ({ t.loseVolatile with
        restart.logicSupply := .lost, restart.phase := .off } : Station)) (fun _ => rfl)]
      exact taken _ (.start (supplyLost_start _))
    next strap zone =>
      rw [effect_performFinish (f := Station.supplyRestored strap zone) (fun _ => rfl)]
      exact taken _ (supplyRestored_course _ _ _).finish
    next =>
      rw [effect_perform (f := fun t => ({ t with restart.resetLineLow := true } : Station).causeArrives .resetLine)
        (fun _ => rfl)]
      exact taken _ (.trans (.of_leads (.of_vitals rfl)) (causeArrives_course { s.take _ with restart.resetLineLow := true } _))
    next strap zone damage =>
      rw [effect_performFinish (f := Station.warmEnd strap zone damage) (fun _ => rfl)]
      exact taken _ (warmEnd_course _ _ _ _).finish
    next => cases row

/-- What single changes and starts keep of the vitals, every step keeps. -/
theorem step_keeps_vitals {I : Vitals → Prop} (change : ∀ v w, I v → Change v w → I w)
    (start : ∀ v w, I v → Start v w → I w) (s t : State) (i : I s.station.vitals) (h : step s = .next t) :
    I t.station.vitals :=
  step_keeps (I := fun u => I u.vitals) (fun _ i => i) (fun c u i => (effect_course c u).keeps change start i) s t i h

/-! ### The tables within their sizes (O5) -/

/-- `Station.Bounded` in terms of the vitals. -/
structure Vitals.Bounded (v : Vitals) : Prop where
  claims    : v.claims.length ≤ 4
  announced : v.announced ≤ 2
  cached    : v.cached ≤ 128
  redirected : v.redirected ≤ 16
  queued    : v.queued ≤ 16
  frames    : v.frames.length ≤ 12
  cabins    : v.cabins.Pairwise (· < ·)
  down      : v.up = false → v.walking = false ∧ v.announced = 0 ∧ ∀ k ∈ v.frames, k = .recall ∨ k = .report

theorem bounded_iff (s : Station) : s.Bounded ↔ s.vitals.Bounded := by
  constructor
  · rintro ⟨claims, announced, cached, redirected, queued, frames, cabins, down⟩
    refine ⟨?_, announced, cached, redirected, queued, ?_, cabins, fun up => ?_⟩
    · simpa [Station.vitals] using claims
    · simpa [Station.vitals] using frames
    · simpa [Station.vitals] using down up
  · rintro ⟨claims, announced, cached, redirected, queued, frames, cabins, down⟩
    refine ⟨?_, announced, cached, redirected, queued, ?_, cabins, fun up => ?_⟩
    · simpa [Station.vitals] using claims
    · simpa [Station.vitals] using frames
    · simpa [Station.vitals] using down up

theorem change_bounded (v w : Vitals) (b : v.Bounded) (change : Change v w) : w.Bounded := by
  obtain ⟨claims, announced, cached, redirected, queued, frames, cabins, down⟩ := b
  cases change with
  | framed fits kinds =>
    refine ⟨claims, announced, cached, redirected, queued, fits frames, cabins, fun up => ?_⟩
    obtain ⟨walking, listed, few⟩ := down up
    exact ⟨walking, listed, fun k mem => (kinds up k mem).elim (few k) id⟩
  | wentDown => exact ⟨claims, by simp, cached, redirected, queued, by simp, cabins, by simp⟩
  | wentUp => exact ⟨claims, announced, cached, redirected, queued, frames, cabins, nofun⟩
  | walkStarted up => exact ⟨claims, announced, cached, redirected, queued, frames, cabins, by simp [up]⟩
  | walkEnded =>
    exact ⟨claims, announced, cached, redirected, queued, frames, cabins, fun up => ⟨rfl, (down up).2⟩⟩
  | announced walking few goesOn =>
    refine ⟨claims, few, cached, redirected, queued, frames, cabins, fun up => ?_⟩
    rw [(down up).1] at walking
    cases walking
  | unlisted fewer =>
    refine ⟨claims, fewer.trans announced, cached, redirected, queued, frames, cabins, fun up => ?_⟩
    obtain ⟨walking, listed, few⟩ := down up
    exact ⟨walking, Nat.le_zero.1 (fewer.trans_eq listed), few⟩
  | claimed p few unclaimed unheld =>
    exact ⟨by simp; omega, announced, cached, redirected, queued, frames, cabins, down⟩
  | claimsEnded fewer => exact ⟨fewer.length_le.trans claims, announced, cached, redirected, queued, frames, cabins, down⟩
  | confirmed p claimed =>
    exact ⟨(List.length_filter_le _ _).trans claims, announced, cached, redirected, queued, frames, cabins, down⟩
  | cached fits => exact ⟨claims, announced, fits cached, redirected, queued, frames, cabins, down⟩
  | redirected fits => exact ⟨claims, announced, cached, fits redirected, queued, frames, cabins, down⟩
  | queued fits => exact ⟨claims, announced, cached, redirected, fits queued, frames, cabins, down⟩
  | cabinsMade ordered => exact ⟨claims, announced, cached, redirected, queued, frames, ordered, down⟩
  | _ => exact ⟨claims, announced, cached, redirected, queued, frames, cabins, down⟩

theorem start_bounded (v w : Vitals) (b : v.Bounded) (start : Start v w) : w.Bounded := by
  obtain ⟨claims, announced, cached, redirected, queued, frames, cabins, down⟩ := b
  cases start with
  | lost => exact ⟨claims, by simp, by simp, by simp, by simp, by simp, cabins, nofun⟩
  | cold => exact ⟨by simp, by simp, by simp, by simp, by simp, by simp, .nil, nofun⟩
  | completed => exact ⟨claims, announced, cached, redirected, queued, frames, cabins, down⟩

/-- Settles O5, as single changes and starts keep the tables bounded. -/
theorem boundedKept : Obligations.BoundedKept := by
  intro s t b h
  rw [bounded_iff] at b ⊢
  exact step_keeps_vitals change_bounded start_bounded s t b h

/-! ### One place for a party (O6) -/

/-- `Station.OnePlace` in terms of the vitals. -/
structure Vitals.OnePlace (v : Vitals) : Prop where
  holdings : v.holdings.Nodup
  claims   : v.claims.Nodup
  apart    : ∀ p ∈ v.claims, p ∉ v.holdings

theorem onePlace_iff (s : Station) : s.OnePlace ↔ s.vitals.OnePlace := by
  have apart : (∀ c ∈ s.claims.claims, ∀ h ∈ s.lockers.holdings, c.party ≠ h.party) ↔
      ∀ p ∈ s.vitals.claims, p ∉ s.vitals.holdings := by
    constructor
    · intro places p claimed held
      obtain ⟨c, mem, rfl⟩ := List.mem_map.1 claimed
      obtain ⟨h, stands, same⟩ := List.mem_map.1 held
      exact places c mem h stands same.symm
    · intro places c mem h stands same
      exact places c.party (List.mem_map.2 ⟨c, mem, rfl⟩) (List.mem_map.2 ⟨h, stands, same.symm⟩)
  constructor
  · rintro ⟨holdings, claims, places⟩
    exact ⟨holdings, claims, apart.1 places⟩
  · rintro ⟨holdings, claims, places⟩
    exact ⟨holdings, claims, apart.2 places⟩

theorem nodup_concat {l : List PartyKey} {p : PartyKey} : (l ++ [p]).Nodup ↔ l.Nodup ∧ p ∉ l := by
  rw [← List.concat_eq_append, List.nodup_concat, and_comm]

theorem change_onePlace (v w : Vitals) (o : v.OnePlace) (change : Change v w) : w.OnePlace := by
  obtain ⟨holdings, claims, apart⟩ := o
  cases change with
  | claimed p few unclaimed unheld =>
    refine ⟨holdings, nodup_concat.2 ⟨claims, unclaimed⟩, fun q mem => ?_⟩
    rcases List.mem_append.1 mem with old | new
    · exact apart q old
    · exact List.mem_singleton.1 new ▸ unheld
  | claimsEnded fewer => exact ⟨holdings, claims.sublist fewer, fun p mem => apart p (fewer.subset mem)⟩
  | confirmed p claimed =>
    refine ⟨nodup_concat.2 ⟨holdings, apart p claimed⟩, claims.filter _, fun q mem held => ?_⟩
    obtain ⟨old, other⟩ := List.mem_filter.1 mem
    rcases List.mem_append.1 held with before | new
    · exact apart q old before
    · exact of_decide_eq_true other (List.mem_singleton.1 new)
  | rebuilt p unclaimed unheld =>
    refine ⟨nodup_concat.2 ⟨holdings, unheld⟩, claims, fun q mem held => ?_⟩
    rcases List.mem_append.1 held with before | new
    · exact apart q mem before
    · exact unclaimed (List.mem_singleton.1 new ▸ mem)
  | holdingsEnded fewer => exact ⟨holdings.sublist fewer, claims, fun p mem held => apart p mem (fewer.subset held)⟩
  | _ => exact ⟨holdings, claims, apart⟩

theorem start_onePlace (v w : Vitals) (o : v.OnePlace) (start : Start v w) : w.OnePlace := by
  cases start with
  | cold => exact ⟨.nil, .nil, nofun⟩
  | _ => exact ⟨o.holdings, o.claims, o.apart⟩

/-- Settles O6, as single changes and starts keep each party in one place. -/
theorem onePlaceKept : Obligations.OnePlaceKept := by
  intro s t o h
  rw [onePlace_iff] at o ⊢
  exact step_keeps_vitals change_onePlace start_onePlace s t o h

/-! ### The supply watched (O7) -/

/-- `Station.SupplyWatched` in terms of the vitals. -/
structure Vitals.SupplyWatched (v : Vitals) : Prop where
  low   : v.driveSupply = .low → v.holdDown = true
  timer : v.releaseAt.isSome = true → v.holdDown = true ∧ v.driveSupply = .high

theorem supplyWatched_iff (s : Station) : s.SupplyWatched ↔ s.vitals.SupplyWatched :=
  ⟨fun ⟨low, timer⟩ => ⟨low, timer⟩, fun ⟨low, timer⟩ => ⟨low, timer⟩⟩

theorem change_supplyWatched (v w : Vitals) (sw : v.SupplyWatched) (change : Change v w) : w.SupplyWatched := by
  obtain ⟨low, timer⟩ := sw
  cases change with
  | supplyLower held => exact ⟨fun _ => held, nofun⟩
  | supplyFell => exact ⟨fun _ => rfl, nofun⟩
  | supplyRose m =>
    refine ⟨nofun, fun timed => ⟨?_, rfl⟩⟩
    by_cases held : v.holdDown = true
    · exact held
    · simp only [held, Bool.false_and, Bool.false_eq_true, if_false] at timed
      exact (timer timed).1
  | supplySagged => exact ⟨nofun, nofun⟩
  | released timed => exact ⟨fun lower => (nomatch (timer timed).2.symm.trans lower), nofun⟩
  | _ => exact ⟨low, timer⟩

theorem start_supplyWatched (v w : Vitals) (sw : v.SupplyWatched) (start : Start v w) : w.SupplyWatched := by
  cases start with
  | cold timed => exact ⟨fun _ => rfl, fun runs => ⟨rfl, timed runs⟩⟩
  | _ => exact ⟨sw.low, sw.timer⟩

/-- Settles O7, as single changes and starts keep the supply watched. -/
theorem supplyWatchedKept : Obligations.SupplyWatchedKept := by
  intro s t sw h
  rw [supplyWatched_iff] at sw ⊢
  exact step_keeps_vitals change_supplyWatched start_supplyWatched s t sw h

end Sys2Proof.Machine

/-!
PROOFS. Every step keeps one request to an output and one pull to a slot that is not resting (O4).
-/

namespace Sys2Proof.Machine

open Sys2Proof

/-! ### Requests whose phase is set, and requests aborted -/

theorem mem_phased {output : Nat} {phase : DrivePhase} {requests : List DriveRequest} {q : DriveRequest} :
    q ∈ phased output phase requests ↔
      (∃ r ∈ requests, r.output = output ∧ q = { r with phase }) ∨ (q ∈ requests ∧ q.output ≠ output) := by
  simp only [phased, updateWhere, List.mem_map]
  constructor
  · rintro ⟨r, mem, rfl⟩
    by_cases same : r.output = output
    · exact .inl ⟨r, mem, same, by simp [same]⟩
    · simp only [same, decide_false, Bool.false_eq_true, if_false]
      exact .inr ⟨mem, same⟩
  · rintro (⟨r, mem, same, rfl⟩ | ⟨mem, other⟩)
    · exact ⟨r, mem, by simp [same]⟩
    · exact ⟨q, mem, by simp [other]⟩

theorem phased_outputs (output : Nat) (phase : DrivePhase) (requests : List DriveRequest) :
    (phased output phase requests).map (·.output) = requests.map (·.output) :=
  map_updateWhere _ _ _ _ fun _ => rfl

/-- A request whose output is on after an abort stood so before, and was not picked. -/
theorem mem_aborted_driving {p : DriveRequest → Bool} {requests : List DriveRequest} {q : DriveRequest}
    (mem : q ∈ abortedRequests p requests) (on : q.driving = true) : q ∈ requests ∧ p q = false := by
  obtain ⟨r, left, rfl⟩ := List.mem_map.1 mem
  obtain ⟨stands, kept⟩ := List.mem_filter.1 left
  cases phase : r.phase with
  | pull slot ends =>
    simp only [phase] at on ⊢
    cases picked : p r with
    | true => simp [picked, DriveRequest.driving] at on
    | false => exact ⟨by simpa using stands, by simp [picked]⟩
  | hold =>
    simp only [phase] at kept ⊢
    exact ⟨stands, by simpa using kept⟩
  | waiting => simp [phase, DriveRequest.driving] at on
  | rest ends => simp [phase, DriveRequest.driving] at on

theorem aborted_outputs (p : DriveRequest → Bool) (requests : List DriveRequest) :
    ((abortedRequests p requests).map (·.output)).Sublist (requests.map (·.output)) := by
  have same : (abortedRequests p requests).map (·.output) =
      (requests.filter fun r => !(p r && decide (r.phase = .hold))).map (·.output) := by
    rw [abortedRequests, List.map_map]
    refine List.map_congr_left fun r _ => ?_
    simp only [Function.comp]
    split
    · split <;> rfl
    · rfl
  rw [same]
  exact List.filter_sublist.map _

theorem driving_of_pull {r : DriveRequest} {slot : Nat} {ends : Moment} (pull : r.phase = .pull slot ends) :
    r.driving = true := by
  simp [DriveRequest.driving, pull]

/-! ### The slots sound -/

/-- `Station.SlotsSound` in terms of the requests and the slots. -/
structure Occupancy (requests : List DriveRequest) (slots : List Slot) : Prop where
  outputs  : (requests.map (·.output)).Nodup
  four     : slots.map (·.number) = [1, 2, 3, 4]
  occupied : ∀ r ∈ requests, ∀ slot ends, r.phase = .pull slot ends → ∃ k ∈ slots, k.number = slot ∧ k.restUntil = none
  apart    : ∀ r ∈ requests, ∀ q ∈ requests, ∀ slot e d,
    r.phase = .pull slot e → q.phase = .pull slot d → r.output = q.output

theorem slotsSound_iff (s : Station) : s.SlotsSound ↔ Occupancy s.vitals.requests s.vitals.slots :=
  ⟨fun ⟨outputs, four, occupied, apart⟩ => ⟨outputs, four, occupied, apart⟩,
    fun ⟨outputs, four, occupied, apart⟩ => ⟨outputs, four, occupied, apart⟩⟩

namespace Occupancy

variable {requests : List DriveRequest} {slots : List Slot}

/-- A pull that stands among fewer requests stood before. -/
theorem shrink {left : List DriveRequest} (o : Occupancy requests slots)
    (outputs : (left.map (·.output)).Sublist (requests.map (·.output)))
    (pulls : ∀ r ∈ left, r.driving = true → r ∈ requests) : Occupancy left slots where
  outputs := o.outputs.sublist outputs
  four := o.four
  occupied := fun r mem slot ends pull => o.occupied r (pulls r mem (driving_of_pull pull)) slot ends pull
  apart := fun r mr q mq slot e d pr pq =>
    o.apart r (pulls r mr (driving_of_pull pr)) q (pulls q mq (driving_of_pull pq)) slot e d pr pq

/-- Slots rest in which no request pulls. -/
theorem restSlots (o : Occupancy requests slots) (p : Slot → Bool) (rest : Moment)
    (unused : ∀ r ∈ requests, ∀ ends k, r.phase = .pull k.number ends → p k = false) :
    Occupancy requests (updateWhere p (fun k => { k with restUntil := some rest }) slots) where
  outputs := o.outputs
  four := (map_updateWhere p (fun k => { k with restUntil := some rest }) _ _ fun _ => rfl).trans o.four
  occupied := fun r mem slot ends pull => by
    obtain ⟨k, stands, rfl, free⟩ := o.occupied r mem slot ends pull
    exact ⟨k, List.mem_map.2 ⟨k, stands, by simp [unused r mem ends k pull]⟩, rfl, free⟩
  apart := o.apart

/-- A slot rests no longer. -/
theorem slotFreed (o : Occupancy requests slots) (p : Slot → Bool) :
    Occupancy requests (updateWhere p (fun k => { k with restUntil := none }) slots) where
  outputs := o.outputs
  four := (map_updateWhere p (fun k => { k with restUntil := none }) _ _ fun _ => rfl).trans o.four
  occupied := fun r mem slot ends pull => by
    obtain ⟨k, stands, number, free⟩ := o.occupied r mem slot ends pull
    refine ⟨_, List.mem_map.2 ⟨k, stands, rfl⟩, ?_, ?_⟩
    · split <;> exact number
    · split
      · rfl
      · exact free
  apart := o.apart

/-- A request enters PULL in a slot that does not rest and holds no pull. -/
theorem grant (o : Occupancy requests slots) (output slot : Nat) (ends : Moment)
    (free : ∃ k ∈ slots, k.number = slot ∧ k.restUntil = none)
    (empty : ∀ r ∈ requests, ∀ ends, r.phase ≠ .pull slot ends) :
    Occupancy (phased output (.pull slot ends) requests) slots where
  outputs := by
    rw [phased_outputs]
    exact o.outputs
  four := o.four
  occupied := fun r mem k e pull => by
    rcases mem_phased.1 mem with ⟨q, stands, same, rfl⟩ | ⟨stands, other⟩
    · cases pull
      exact free
    · exact o.occupied r stands k e pull
  apart := fun r mr q mq k e d pr pq => by
    rcases mem_phased.1 mr with ⟨r, sr, or, rfl⟩ | ⟨sr, or⟩ <;>
      rcases mem_phased.1 mq with ⟨q, sq, oq, rfl⟩ | ⟨sq, oq⟩
    · exact or.trans oq.symm
    · cases pr
      exact absurd pq (empty q sq d)
    · cases pq
      exact absurd pr (empty r sr e)
    · exact o.apart r sr q sq k e d pr pq

/-- A request leaves PULL. -/
theorem endPull (o : Occupancy requests slots) {r : DriveRequest} {slot : Nat} {ends : Moment} (stands : r ∈ requests)
    (pull : r.phase = .pull slot ends) (rest : Moment) {phase : DrivePhase} (ended : ∀ k e, phase ≠ .pull k e) :
    Occupancy (phased r.output phase requests) (restedSlots slot rest slots) := by
  have left : ∀ q ∈ phased r.output phase requests, ∀ k e, q.phase = .pull k e → q ∈ requests ∧ q.output ≠ r.output := by
    intro q mem k e pq
    rcases mem_phased.1 mem with ⟨x, _, _, rfl⟩ | found
    · exact absurd pq (ended k e)
    · exact found
  have shrunk : Occupancy (phased r.output phase requests) slots :=
    { outputs := by
        rw [phased_outputs]
        exact o.outputs
      four := o.four
      occupied := fun q mem k e pq => o.occupied q (left q mem k e pq).1 k e pq
      apart := fun q mq x mx k e d pq px =>
        o.apart q (left q mq k e pq).1 x (left x mx k d px).1 k e d pq px }
  refine shrunk.restSlots _ rest fun q mem e k pq => decide_eq_false fun same => ?_
  obtain ⟨stood, other⟩ := left q mem _ e pq
  exact other (o.apart q stood r stands slot e ends (same ▸ pq) pull)

/-- R154: the pulls that `p` picks are aborted, and their slots rest. -/
theorem abort (o : Occupancy requests slots) (p : DriveRequest → Bool) (rest : Moment) :
    Occupancy (abortedRequests p requests) (abortedSlots p rest requests slots) := by
  refine (o.shrink (aborted_outputs p requests) fun r mem on => (mem_aborted_driving mem on).1).restSlots _ rest ?_
  intro q mem e k pq
  obtain ⟨stood, spared⟩ := mem_aborted_driving mem (driving_of_pull pq)
  refine List.any_eq_false.2 fun r stands picked => ?_
  obtain ⟨chosen, here⟩ := Bool.and_eq_true_iff.1 picked
  split at here
  next slot ends pull =>
    have same : r = q :=
      List.inj_on_of_nodup_map o.outputs stands stood
        (o.apart r stands q stood k.number ends e (of_decide_eq_true here ▸ pull) pq)
    rw [same, spared] at chosen
    cases chosen
  next => cases here

end Occupancy

theorem change_occupancy (v w : Vitals) (o : Occupancy v.requests v.slots) (change : Change v w) :
    Occupancy w.requests w.slots := by
  cases change with
  | requested r waits fresh =>
    have old : ∀ q ∈ v.requests ++ [r], ∀ k e, q.phase = .pull k e → q ∈ v.requests := by
      intro q mem k e pull
      rcases List.mem_append.1 mem with stood | new
      · exact stood
      · rw [List.mem_singleton.1 new, waits] at pull
        cases pull
    exact
      { outputs := by
          rw [List.map_append, List.map_singleton, ← List.concat_eq_append, List.nodup_concat]
          refine ⟨fun mem => ?_, o.outputs⟩
          obtain ⟨q, stands, same⟩ := List.mem_map.1 mem
          exact fresh q stands same
        four := o.four
        occupied := fun q mem k e pull => o.occupied q (old q mem k e pull) k e pull
        apart := fun q mq x mx k e d pq px => o.apart q (old q mq k e pq) x (old x mx k d px) k e d pq px }
  | withdrawn fewer => exact o.shrink (fewer.map _) fun r mem _ => fewer.subset mem
  | granted r slot ends released sound free => exact o.grant r.output slot ends free.1 free.2
  | pulled r stands pull rest phase ended => exact o.endPull stands pull rest ended
  | slotRested slot => exact o.slotFreed _
  | groupFaulted g rest => exact o.abort _ rest
  | supplyFell rest => exact o.abort _ rest
  | _ => exact o

theorem start_occupancy (v w : Vitals) (o : Occupancy v.requests v.slots) (start : Start v w) :
    Occupancy w.requests w.slots := by
  have reset : Occupancy [] DriveArbiter.resetSlots := ⟨.nil, rfl, nofun, nofun⟩
  cases start with
  | completed => exact o
  | _ => exact reset

/-- Settles O4, as single changes and starts keep the slots sound. -/
theorem slotsSoundKept : Obligations.SlotsSoundKept := by
  intro s t sound h
  rw [slotsSound_iff] at sound ⊢
  exact step_keeps_vitals (I := fun v => Occupancy v.requests v.slots) change_occupancy start_occupancy s t sound h

end Sys2Proof.Machine

/-!
PROOFS. No report waits between steps (O8): the rows that let the owners take their reports leave none, and the others
leave the link's reports alone.
-/

namespace Sys2Proof.Machine

open Sys2Proof

variable (s : Station)

/-! ### What the rows of lockers, cabins and drives leave of the link -/

@[simp] theorem follow_link (f : Levels → Levels) : (s.follow f).link = s.link := by
  unfold Station.follow
  split <;> rfl

@[simp] theorem settleTaken_link (n : Nat) : (s.settleTaken n).link = s.link := by
  unfold Station.settleTaken
  split
  · rfl
  · split <;> rfl

@[simp] theorem openDoor_link (n : Nat) : (s.openDoor n).link = s.link := by
  unfold Station.openDoor
  split <;> simp [Station.cancelBoltWait, Station.forceLocked]

@[simp] theorem doorOpened_link (n : Nat) : (s.doorOpened n).link = s.link := by
  unfold Station.doorOpened Station.cursorOpened
  split
  · split <;> simp [Station.setDoor]
  · simp [Station.setDoor]

@[simp] theorem doorShut_link (n : Nat) : (s.doorShut n).link = s.link := by
  unfold Station.doorShut Station.closeDoor
  split
  · unfold Station.secure
    split <;> simp [Station.setDoor]
  · simp [Station.setDoor]
  · simp [Station.setDoor]

@[simp] theorem boltMoved_link (n : Nat) (engaged : Bool) : (s.boltMoved n engaged).link = s.link := by
  have boltIn (t : Station) : (t.boltIn n).link = t.link := by
    unfold Station.boltIn Station.cancelBoltWait
    split
    · rfl
    · split <;> (try split) <;> rfl
  have boltOut (t : Station) : (t.boltOut n).link = t.link := by
    unfold Station.boltOut
    split <;> rfl
  unfold Station.boltMoved
  cases engaged <;> simp [boltIn, boltOut, Station.setBolt]

@[simp] theorem walkIn_link (n : Nat) : (s.walkIn n).link = s.link := by
  unfold Station.walkIn
  split <;> simp

@[simp] theorem takePresence_link (n : Nat) : (s.takePresence n).link = s.link := by
  unfold Station.takePresence Station.admitCabin
  split
  · simp
  · simp
  · split <;> simp
  · rfl

@[simp] theorem startVacate_link (n : Nat) : (s.startVacate n).link = s.link := rfl

@[simp] theorem presenceSeen_link (n : Nat) : (s.presenceSeen n).link = s.link := by
  unfold Station.presenceSeen
  dsimp only
  split <;> simp [Station.setPadLevel, Station.setPresence, Station.cancelVacate]

@[simp] theorem presenceClear_link (n : Nat) : (s.presenceClear n).link = s.link := by
  unfold Station.presenceClear
  dsimp only
  split <;> simp [Station.setPadLevel, Station.setPresence]

@[simp] theorem presenceConfirmed_link (n : Nat) : (s.presenceConfirmed n).link = s.link := by
  unfold Station.presenceConfirmed
  split <;> simp [Station.setPresence]

@[simp] theorem latchMoved_link (n : Nat) (latched : Bool) : (s.latchMoved n latched).link = s.link := by
  simp [Station.latchMoved]

@[simp] theorem dropReservation_link (n : Nat) : (s.dropReservation n).link = s.link := by
  unfold Station.dropReservation
  split <;> rfl

theorem graceEnd_link (n : Nat) : (s.graceEnd n).link = s.link := by
  unfold Station.graceEnd
  split <;> simp

theorem admitEnd_link (n : Nat) : (s.admitEnd n).link = s.link := by
  unfold Station.admitEnd
  split <;> simp

theorem vacateEnd_link (n : Nat) : (s.vacateEnd n).link = s.link := by
  unfold Station.vacateEnd
  split
  · rfl
  · split <;> simp

theorem boltWaitEnd_link (n : Nat) : (s.boltWaitEnd n).link = s.link := by
  unfold Station.boltWaitEnd
  split
  · rfl
  · dsimp only
    split <;> simp

theorem enqueueLatch_link (n : Nat) : (s.enqueueLatch n).link = s.link := by
  unfold Station.enqueueLatch Station.enqueue
  split
  · rfl
  · dsimp only
    split <;> rfl

theorem latchDone_link (n : Nat) : (s.latchDone n).link = s.link := by
  simp [Station.latchDone, enqueueLatch_link]

theorem latchMissed_link (n : Nat) (target : Latch) : (s.latchMissed n target).link = s.link := by
  unfold Station.latchMissed
  split
  · rfl
  · split <;> simp

theorem faultCabin_link (n : Nat) : (s.faultCabin n).link = s.link := by
  unfold Station.faultCabin
  dsimp only
  split <;> simp

theorem pullEnd_link (output : Nat) : (s.pullEnd output).link = s.link := by
  have bolt (t : Station) (r : DriveRequest) : (t.boltPulled r).link = t.link := by
    unfold Station.boltPulled
    dsimp only
    split
    · simp
    · split <;> simp [Station.restRequest, Station.jamRequest, Station.jamLocker]
  have latch (t : Station) (r : DriveRequest) (target : Latch) : (t.latchPulled r target).link = t.link := by
    unfold Station.latchPulled
    dsimp only
    split
    · simp [latchDone_link]
    · split
      · simp [Station.restRequest, latchMissed_link]
      · simp [Station.jamRequest, faultCabin_link]
  unfold Station.pullEnd
  split
  · rfl
  · split
    · rfl
    · split
      · dsimp only
        split <;> simp [bolt, latch]
      · rfl

theorem jamRestEnd_link (output : Nat) : (s.jamRestEnd output).link = s.link := by
  unfold Station.jamRestEnd
  split
  · rfl
  · split <;> simp

theorem slotRestEnd_link (k : Nat) : (s.slotRestEnd k).link = s.link := by
  unfold Station.slotRestEnd
  split <;> simp

theorem releaseHoldDown_link : s.releaseHoldDown.link = s.link := by
  unfold Station.releaseHoldDown
  split <;> simp

theorem expireRedirect_link (b : BitVec 24) : (s.expireRedirect b).link = s.link := by
  unfold Station.expireRedirect
  split <;> rfl

theorem ageNeighbour_link (x : Nat) : (s.ageNeighbour x).link = s.link := by
  unfold Station.ageNeighbour
  split
  · rfl
  · split <;> rfl

theorem windowClosed_link : s.windowClosed.link = s.link := by
  unfold Station.windowClosed
  split <;> rfl

theorem endCause_link : s.endCause.link = s.link := by
  unfold Station.endCause
  split
  · split <;> rfl
  · rfl
  · rfl

/-! ### The filters -/

theorem settleCabin_link (n : Nat) : (s.settleCabin n).link = s.link := by
  unfold Station.settleCabin Station.resumeCabin
  split
  · rfl
  · split
    · split <;> simp
    · dsimp only
      split
      · rfl
      · rfl
      · split <;> simp
      · split <;> simp
      · split <;> simp
      · split <;> simp

theorem settleWarm_link (l : Locker) : (s.settleWarm l).link = s.link := by
  have held (t : Station) (n : Nat) : (t.settleHeld n).link = t.link := by
    unfold Station.settleHeld
    split <;> rfl
  have drive (t : Station) (l : Locker) : (Station.settleWarm.settleDrive t l).link = t.link := by
    unfold Station.settleWarm.settleDrive
    split
    · exact held t _
    · split
      · split <;> rfl
      · rfl
      · rfl
  unfold Station.settleWarm
  split
  · rfl
  · split <;> simp [held, drive]

theorem foldl_link {α : Type} (f : Station → α → Station) (keeps : ∀ t x, (f t x).link = t.link) (l : List α) :
    (l.foldl f s).link = s.link := by
  induction l generalizing s with
  | nil => rfl
  | cons x l ih => exact (ih _).trans (keeps s x)

theorem settleCabins_link : s.settleCabins.link = s.link := by
  unfold Station.settleCabins
  exact foldl_link _ _ (fun t (c : Cabin) => settleCabin_link t c.number) _

theorem loadFilters_link : s.loadFilters.link = s.link := by
  have settled (t : Station) : t.settleStart.link = t.link := by
    unfold Station.settleStart
    split
    · exact (settleCabins_link _).trans (foldl_link _ _ settleWarm_link _)
    · rfl
  unfold Station.loadFilters
  split
  · exact settled _
  · rfl

theorem sample_link (levels : Levels) : (s.sample levels).link = s.link := by
  have instant (t : Station) (event : Instr) : (t.takeInstant event).link = t.link := by
    unfold Station.takeInstant
    split <;> simp
  have filtered (t : Station) : t.filterSample.link = t.link := by
    unfold Station.filterSample
    split
    · exact foldl_link _ _ instant _
    · rfl
  have loaded (t : Station) : t.finishLoad.link = t.link := by
    unfold Station.finishLoad
    split
    · exact loadFilters_link _
    · rfl
  unfold Station.sample
  dsimp only
  split
  · exact (filtered _).trans (loaded s)
  · split <;> exact loaded s

/-! ### The reader inputs and the panel -/

@[simp] theorem refuseTap_link : s.refuseTap.link = s.link := by
  unfold Station.refuseTap
  split <;> rfl

theorem readerBreak_link (r : Reader) : (s.readerBreak r).link = s.link := by
  unfold Station.readerBreak
  dsimp only
  split <;> simp

theorem recordComplete_link (r : Reader) (bytes : List Byte) : (s.recordComplete r bytes).link = s.link := by
  have handed (t : Station) (tap : Tap) : (t.handTap r tap).link = t.link := by
    unfold Station.handTap
    cases r <;> rfl
  have presented (t : Station) : (t.present r bytes).link = t.link := by
    unfold Station.present
    split
    · rfl
    · simp
    · simp
    · split <;> simp [handed]
  unfold Station.recordComplete
  split
  · rfl
  · split
    · simp
    · split <;> simp [Station.sight, presented]

theorem readerCharacter_link (r : Reader) (b : Byte) (stopIdle : Bool) :
    (s.readerCharacter r b stopIdle).link = s.link := by
  unfold Station.readerCharacter
  split
  · rfl
  · split
    · simp [Station.discardRecord]
    · split
      · rfl
      · exact recordComplete_link _ r _

theorem characterTimeout_link (r : Reader) : (s.characterTimeout r).link = s.link := by
  unfold Station.characterTimeout
  split <;> simp [Station.discardRecord]

theorem cabinTap_link (n : Nat) (tap : Tap) : (s.cabinTap n tap).link = s.link := by
  have admitting (t : Station) (c : Cabin) : (t.admittingTap c).link = t.link := by
    unfold Station.admittingTap
    split
    · rfl
    · dsimp only
      split <;> simp
  have arrived (t : Station) : (t.newArrival tap).link = t.link := by
    unfold Station.newArrival
    split
    · rfl
    · split
      · rfl
      · split <;> rfl
  unfold Station.cabinTap
  split
  · exact admitting s _
  · split
    · split <;> rfl
    · split
      · rfl
      · exact arrived s

theorem scrollOn_link : s.scrollOn.link = s.link := by
  unfold Station.scrollOn
  dsimp only
  split <;> rfl

theorem panelFrame_link : s.panelFrame.link = s.link := by
  have counted (t : Station) : t.countFrame.link = t.link := by
    unfold Station.countFrame
    dsimp only
    split
    · exact scrollOn_link _
    · rfl
  unfold Station.panelFrame
  split
  · dsimp only
    split
    · rfl
    · exact counted _
  · rfl

theorem cursorEnd_link : s.cursorEnd.link = s.link := by
  unfold Station.cursorEnd
  split <;> rfl

theorem holdEnd_link : s.holdEnd.link = s.link := by
  unfold Station.holdEnd
  split <;> rfl

theorem turnPair_link : s.turnPair.link = s.link := by
  unfold Station.turnPair
  split <;> rfl

/-! ### The attempt rows -/

theorem startAttempt_reports : s.startAttempt.link.reports = s.link.reports := by
  unfold Station.startAttempt
  dsimp only
  split <;> rfl

theorem loseArbitration_reports : s.loseArbitration.link.reports = s.link.reports := by
  unfold Station.loseArbitration
  split
  · rfl
  · dsimp only
    split <;> simp

theorem frameSpoiled_reports (bytes : List Byte) (check : BitVec 16) :
    (s.frameSpoiled bytes check).link.reports = s.link.reports := by
  unfold Station.frameSpoiled
  dsimp only
  split <;> rfl

theorem causeArrives_settled (cause : StartCause) (settled : s.Settled) : (s.causeArrives cause).Settled := by
  unfold Station.causeArrives
  split
  · exact settled
  · rfl

/-! ### No report waits between steps (O8) -/

section

variable {s : Station} {c : Instr} {f : Station → Station}

theorem settled_of_finish (meaning : ∀ u, exec c u = performFinish c f u) : (effect c s).Settled := by
  rw [effect_performFinish meaning]
  exact finish_settles _

theorem settled_of_perform (settled : s.Settled) (meaning : ∀ u, exec c u = perform c f u)
    (keeps : ∀ t, t.Settled → (f t).Settled) : (effect c s).Settled := by
  rw [effect_perform meaning]
  exact keeps _ settled

theorem settled_of_link {t : Station} (settled : t.Settled) (same : (f t).link = t.link) : (f t).Settled := by
  unfold Station.Settled at *
  rw [same, settled]

theorem whenLive_settled {t : Station} (settled : t.Settled) (keeps : t.Settled → (f t).Settled) :
    (whenLive f t).Settled := by
  unfold whenLive
  split
  · exact keeps settled
  · exact settled

theorem whenTracking_cases (t : Station) (f : Station → Station) : whenTracking f t = f t ∨ whenTracking f t = t := by
  unfold whenTracking
  exact ite_eq_or_eq _ _ _

/-- A row that acts only while the blocks run, and leaves the link alone. -/
theorem settled_of_live (settled : s.Settled) (meaning : ∀ u, exec c u = perform c (whenLive f) u)
    (same : ∀ t, (f t).link = t.link) : (effect c s).Settled :=
  settled_of_perform settled meaning fun t st => whenLive_settled st fun st => settled_of_link st (same t)

theorem settled_of_loaded (settled : s.Settled) (meaning : ∀ u, exec c u = perform c (whenLoaded f) u)
    (same : ∀ t, (f t).link = t.link) : (effect c s).Settled :=
  settled_of_live (f := fun t => if t.scan.loaded then f t else t) settled meaning fun t => by
    split
    · exact same t
    · rfl

theorem settled_of_receiving (settled : s.Settled) (meaning : ∀ u, exec c u = perform c (whenReceiving f) u)
    (same : ∀ t, (f t).link = t.link) : (effect c s).Settled :=
  settled_of_perform settled meaning fun t st => settled_of_link st (by
    unfold whenReceiving
    split
    · exact same t
    · rfl)

end

/-- The rows after which the owners of frames take their reports, and the others. -/
theorem effect_settled (c : Instr) (s : Station) (settled : s.Settled) : (effect c s).Settled := by
  match c with
  | .readerBreak r => exact settled_of_receiving settled (fun _ => rfl) (readerBreak_link · r)
  | .readerCharacter r b stop => exact settled_of_receiving settled (fun _ => rfl) (readerCharacter_link · r b stop)
  | .readerCharacterTimeout r => exact settled_of_receiving settled (fun _ => rfl) (characterTimeout_link · r)
  | .cabinTap n tap =>
    refine settled_of_perform (f := fun t => if t.serving then (t.reach tap.time).cabinTap n tap else t) settled
      (fun _ => rfl) fun t st => ?_
    split
    · exact settled_of_link (t := t.reach tap.time) st (cabinTap_link _ n tap)
    · exact st
  | .frameAttemptStart =>
    exact settled_of_perform settled (f := whenLive Station.startAttempt) (fun _ => rfl) fun t st =>
      whenLive_settled st (startAttempt_reports t).trans
  | .arbitrationLost =>
    exact settled_of_perform settled (f := whenLive Station.loseArbitration) (fun _ => rfl) fun t st =>
      whenLive_settled st (loseArbitration_reports t).trans
  | .frameSpoiled bytes check =>
    exact settled_of_perform settled (f := whenLive (Station.frameSpoiled bytes check)) (fun _ => rfl) fun t st =>
      whenLive_settled st (frameSpoiled_reports t bytes check).trans
  | .frameBroken _ =>
    exact settled_of_perform settled (f := whenLive Station.clearWatch) (fun _ => rfl) fun t st =>
      whenLive_settled st id
  | .neighbourStale x => exact settled_of_live settled (fun _ => rfl) (ageNeighbour_link · x)
  | .redirectRecordExpiry b => exact settled_of_live settled (fun _ => rfl) (expireRedirect_link · b)
  | .recessiveSpan =>
    refine settled_of_perform settled (fun _ => rfl) fun t st => ?_
    rcases whenTracking_cases t (fun t => { t.clearWatch with link.recessiveSeen := t.link.recessiveSeen || !t.link.up })
      with e | e
    · rw [e]
      exact st
    · rw [e]
      exact st
  | .minuteTick => exact settled_of_live (f := Station.minuteTick) settled (fun _ => rfl) fun _ => rfl
  | .boltWaitExpiry n => exact settled_of_live settled (fun _ => rfl) (boltWaitEnd_link · n)
  | .doorOpened n => exact settled_of_loaded settled (fun _ => rfl) (doorOpened_link · n)
  | .doorClosed n => exact settled_of_loaded settled (fun _ => rfl) (doorShut_link · n)
  | .boltEvent n engaged => exact settled_of_loaded settled (fun _ => rfl) (boltMoved_link · n engaged)
  | .pullEnd o => exact settled_of_live settled (fun _ => rfl) (pullEnd_link · o)
  | .jamRestEnd o => exact settled_of_live settled (fun _ => rfl) (jamRestEnd_link · o)
  | .slotRestEnd k => exact settled_of_live settled (fun _ => rfl) (slotRestEnd_link · k)
  | .driveSupplyRise => exact settled_of_perform (f := Station.supplyRise) settled (fun _ => rfl) fun _ st => st
  | .driveSupplySag => exact settled_of_perform (f := Station.supplySag) settled (fun _ => rfl) fun _ st => st
  | .holdDownRelease =>
    exact settled_of_perform settled (fun _ => rfl) fun t st => settled_of_link st (releaseHoldDown_link t)
  | .cabinClockTick => exact settled_of_live (f := Station.clockTick) settled (fun _ => rfl) fun _ => rfl
  | .graceExpiry n => exact settled_of_live settled (fun _ => rfl) (graceEnd_link · n)
  | .admitTimerExpiry n => exact settled_of_live settled (fun _ => rfl) (admitEnd_link · n)
  | .vacateTimerExpiry n => exact settled_of_live settled (fun _ => rfl) (vacateEnd_link · n)
  | .presenceSeen n => exact settled_of_loaded settled (fun _ => rfl) (presenceSeen_link · n)
  | .presenceConfirmed n => exact settled_of_loaded settled (fun _ => rfl) (presenceConfirmed_link · n)
  | .presenceClear n => exact settled_of_loaded settled (fun _ => rfl) (presenceClear_link · n)
  | .latchEvent n latched => exact settled_of_loaded settled (fun _ => rfl) (latchMoved_link · n latched)
  | .cursorTimerExpiry => exact settled_of_live settled (fun _ => rfl) cursorEnd_link
  | .messageHoldExpiry => exact settled_of_live settled (fun _ => rfl) holdEnd_link
  | .pairTurn => exact settled_of_live settled (fun _ => rfl) turnPair_link
  | .scrollStep => exact settled_of_live settled (fun _ => rfl) scrollOn_link
  | .recoveryWindowExpiry => exact settled_of_live settled (fun _ => rfl) windowClosed_link
  | .logicSupplyLow =>
    exact settled_of_perform
      (f := fun t => ({ t with restart.logicSupply := .low } : Station).causeArrives .supplyLow) settled (fun _ => rfl)
      fun _ st => causeArrives_settled _ _ st
  | .logicSupplyLost =>
    exact settled_of_perform (f := fun t => ({ t.loseVolatile with
      restart.logicSupply := .lost, restart.phase := .off } : Station)) settled (fun _ => rfl) fun _ _ => rfl
  | .resetLineLow =>
    exact settled_of_perform
      (f := fun t => ({ t with restart.resetLineLow := true } : Station).causeArrives .resetLine) settled (fun _ => rfl)
      fun _ st => causeArrives_settled _ _ st
  | .resetLineHigh =>
    exact settled_of_perform (f := fun t => ({ t with restart.resetLineLow := false } : Station).endCause) settled
      (fun _ => rfl) fun t st => settled_of_link (f := Station.endCause) (t := { t with restart.resetLineLow := false })
        st (endCause_link _)
  | .filterLoadEnd => exact settled_of_live settled (fun _ => rfl) loadFilters_link
  | .panelFrame => exact settled_of_perform settled (fun _ => rfl) fun t st => settled_of_link st (panelFrame_link t)
  | .senseSample levels => exact settled_of_live settled (fun _ => rfl) (sample_link · levels)
  | .lockerTap tap =>
    exact settled_of_finish (f := fun t => if t.serving then (t.reach tap.time).lockerTap tap else t) fun _ => rfl
  | .claimSendDeadline _ | .claimWindowEnd _ | .bitError | .ownFrameDelivered | .attemptSpoiled
  | .frameDiscarded _ _ _ | .heldReceived _ _ | .yieldReceived _ _ | .freeReceived _ _ | .claimReceived _ _
  | .recountReceived _ _ | .recallReceived _ _ | .tallyReceived _ _ | .orderBadCode _ _ | .setupLockers _
  | .setupCabins _ | .setDay _ | .openLocker _ | .endHolding _ | .lockerServiceOff _ | .lockerServiceOn _
  | .cabinServiceOff _ | .cabinServiceOn _ | .clearFaultLocker _ | .clearFaultCabin _ | .clearFaultGroup _
  | .takeCountersSnapshot _ | .readCounters _ | .readLocker _ | .readCabins _ | .findParty _ | .restart _
  | .restartWaitExpiry | .tallyTimer | .dominantWatchExpiry | .grantWaitExpiry _ | .doorWaitExpiry _
  | .driveFault _ _ | .driveSupplyLow | .logicSupplyRestored _ _ | .warmStartEnd _ _ _ =>
    exact settled_of_finish fun _ => rfl

/-- Settles O8, as no row leaves a report that waits. -/
theorem noReportWaitsBetweenSteps : Obligations.NoReportWaitsBetweenSteps :=
  step_keeps (fun _ settled => settled) effect_settled

end Sys2Proof.Machine

/-!
PROOFS. Every step keeps the outputs off under hold-down and in a FAULTED group, and a start and STRAP_FAULT quiet (O3).
-/

namespace Sys2Proof.Machine

open Sys2Proof

/-! ### Outputs off -/

/-- The outputs are off under hold-down and in FAULTED groups, in terms of the vitals. -/
structure Vitals.OutputsOff (v : Vitals) : Prop where
  released : ∀ r ∈ v.requests, r.driving = true → v.holdDown = false
  sound    : ∀ r ∈ v.requests, r.driving = true → v.latches.getLsbD (groupOf r.output) = false

theorem groupBit_getLsbD_other {g k : Nat} (x : BitVec 4) (other : k ≠ g) :
    (groupBit g true x).getLsbD k = x.getLsbD k := by
  have apart : ¬(g ≤ k ∧ k - g = 0) := by omega
  simp only [groupBit, if_true, BitVec.getLsbD_or, BitVec.getLsbD_shiftLeft]
  simp
  omega

theorem change_outputsOff (v w : Vitals) (off : v.OutputsOff) (change : Change v w) : w.OutputsOff := by
  obtain ⟨released, sound⟩ := off
  have driving {left : List DriveRequest} (stood : ∀ r ∈ left, r.driving = true → r ∈ v.requests) :
      (∀ r ∈ left, r.driving = true → v.holdDown = false) ∧
        ∀ r ∈ left, r.driving = true → v.latches.getLsbD (groupOf r.output) = false :=
    ⟨fun r mem on => released r (stood r mem on) on, fun r mem on => sound r (stood r mem on) on⟩
  cases change with
  | requested r waits fresh =>
    obtain ⟨free, whole⟩ := driving (left := v.requests ++ [r]) fun q mem on => by
      rcases List.mem_append.1 mem with stood | new
      · exact stood
      · simp [List.mem_singleton.1 new, DriveRequest.driving, waits] at on
    exact ⟨free, whole⟩
  | withdrawn fewer =>
    obtain ⟨free, whole⟩ := driving fun q mem _ => fewer.subset mem
    exact ⟨free, whole⟩
  | granted r slot ends up whole free =>
    refine ⟨fun _ _ _ => up, fun q mem on => ?_⟩
    rcases mem_phased.1 mem with ⟨x, _, same, rfl⟩ | ⟨stood, _⟩
    · exact same ▸ whole
    · exact sound q stood on
  | pulled r stands pull rest phase ended =>
    have on := driving_of_pull pull
    refine ⟨fun _ _ _ => released r stands on, fun q mem driven => ?_⟩
    rcases mem_phased.1 mem with ⟨x, _, same, rfl⟩ | ⟨stood, _⟩
    · exact same ▸ sound r stands on
    · exact sound q stood driven
  | groupFaulted g rest =>
    refine ⟨fun q mem on => released q (mem_aborted_driving mem on).1 on, fun q mem on => ?_⟩
    obtain ⟨stood, other⟩ := mem_aborted_driving mem on
    exact (groupBit_getLsbD_other _ (of_decide_eq_false other)).trans (sound q stood on)
  | groupCleared fewer =>
    refine ⟨released, fun q mem on => ?_⟩
    exact Bool.eq_false_iff.2 fun set => Bool.eq_false_iff.1 (sound q mem on) (fewer _ set)
  | supplyFell rest => 
    refine ⟨fun q mem on => ?_, fun q mem on => ?_⟩ <;> cases (mem_aborted_driving mem on).2
  | released timed => exact ⟨fun _ _ _ => rfl, sound⟩
  | _ => exact ⟨released, sound⟩

/-! ### Stations whose blocks run, and quiet ones -/

/-- No request, no frame and no report stands anywhere. -/
structure Station.Still (s : Station) : Prop where
  requests : s.drive.queue = []
  frames   : s.link.queue = []
  reports  : s.link.reports = []

theorem Station.DriveSafe.off {s : Station} (safe : s.DriveSafe) : s.vitals.OutputsOff := ⟨safe.released, safe.sound⟩

theorem Station.Still.off {s : Station} (still : s.Still) : s.vitals.OutputsOff := by
  have none : s.vitals.requests = [] := still.requests
  constructor <;> simp [none]

theorem Station.Still.driveSafe {s : Station} (still : s.Still) : s.DriveSafe :=
  ⟨still.off.released, still.off.sound, fun _ => ⟨still.requests, still.frames, still.reports⟩⟩

theorem still_of_dead {s : Station} (safe : s.DriveSafe) (dead : s.live = false) : s.Still := by
  obtain ⟨requests, frames, reports⟩ := safe.quiet (by
    by_contra both
    simp only [not_or, not_not] at both
    simp [Station.live, both.1, both.2] at dead)
  exact ⟨requests, frames, reports⟩

theorem beginWarm_still (s : Station) (cause : StartCause) : (s.beginWarm cause).Still := ⟨rfl, rfl, rfl⟩

/-- A chain from a station whose blocks run, and then at most the warm start ORDERED. -/
theorem driveSafe_of_live {s t : Station} (off : s.vitals.OutputsOff) (live : s.live = true) (h : LeadsOrOrdered s t) :
    t.DriveSafe := by
  rcases h with leads | ⟨u, -, rfl⟩
  · obtain ⟨released, sound⟩ := leads.keeps change_outputsOff off
    refine ⟨released, sound, fun quiet => ?_⟩
    obtain ⟨running, valid⟩ := (live_iff_vitals t).1 (leads.live live)
    exact quiet.elim (absurd running) (absurd · valid)
  · refine Station.Still.driveSafe ?_
    unfold Station.beginOrdered Station.endCause Station.causeEnded
    exact ⟨rfl, rfl, rfl⟩

theorem finish_still {s : Station} (still : s.Still) : s.finish.DriveSafe := by
  rw [finish_settled s still.reports]
  exact still.driveSafe

/-- A still station begins to run, and its blocks act. -/
theorem driveSafe_of_begun {s t u : Station} (still : s.Still) (start : Start s.vitals t.vitals)
    (requests : t.drive.queue = s.drive.queue) (frames : t.link.queue = s.link.queue)
    (reports : t.link.reports = s.link.reports) (runs : t.live = true ∨ u = t) (leads : Leads t u) :
    u.finish.DriveSafe := by
  have same : t.Still :=
    ⟨requests.trans still.requests, frames.trans still.frames, reports.trans still.reports⟩
  rcases runs with live | rfl
  · exact driveSafe_of_live same.off live (LeadsOrOrdered.of_leads leads).finish
  · exact finish_still same

/-! ### The rows by which a start begins or ends -/

section

variable {s : Station}

theorem causeArrives_driveSafe (safe : s.DriveSafe) (cause : StartCause) : (s.causeArrives cause).DriveSafe := by
  unfold Station.causeArrives
  split
  · exact safe
  · exact (beginWarm_still s cause).driveSafe

theorem coldStart_driveSafe (cause : StartCause) (strap : BitVec 5) (zone : BitVec 3) :
    (s.coldStart cause strap zone).finish.DriveSafe := by
  obtain ⟨t, -, requests, frames, reports, live, e⟩ := coldStart_begins s cause strap zone
  have still : t.Still := ⟨requests, frames, reports⟩
  rw [e]
  split
  next valid => exact driveSafe_of_live still.off (live.trans valid) (LeadsOrOrdered.of_leads (queueTally_leads t)).finish
  next => exact finish_still still

/-- A station that stays as it is for its blocks, and whose owners then take their reports. -/
theorem stays_driveSafe {t : Station} (safe : s.DriveSafe) (same : t.vitals = s.vitals)
    (settled : t.link.reports = s.link.reports) (frames : t.link.queue = s.link.queue) : t.finish.DriveSafe := by
  cases live : s.live with
  | true => exact driveSafe_of_live safe.off live (LeadsOrOrdered.of_leads (.of_vitals same)).finish
  | false =>
    have requests : t.drive.queue = s.drive.queue := congrArg Vitals.requests same
    have still := still_of_dead safe live
    exact finish_still ⟨requests.trans still.requests, frames.trans still.frames, settled.trans still.reports⟩

end

/-! ### A quiet station stays quiet -/

section

variable {s : Station}

/-- The queues stay empty. -/
def Empty (s : Station) : Prop := s.drive.queue = [] ∧ s.link.queue = []

theorem empty_of_vitals {t : Station} (empty : Empty s) (same : t.vitals = s.vitals) : Empty t := by
  have requests : t.drive.queue = s.drive.queue := congrArg Vitals.requests same
  have frames : t.link.queue.map (·.kind) = s.link.queue.map (·.kind) := congrArg Vitals.frames same
  exact ⟨requests.trans empty.1, List.map_eq_nil_iff.1 (frames.trans (by rw [empty.2]; rfl))⟩

theorem supplyLow_still (still : s.Still) : s.supplyLow.Still := by
  have empty := still.requests
  unfold Station.supplyLow Station.abortDrives
  dsimp only
  split
  · exact ⟨empty, still.frames, still.reports⟩
  · simp only [empty, List.filter_nil, List.foldl_nil, List.map_nil]
    exact ⟨rfl, still.frames, still.reports⟩

theorem releaseHoldDown_still (still : s.Still) : s.releaseHoldDown.Still := by
  unfold Station.releaseHoldDown
  split
  · exact still
  next t _ =>
    have tested {u : Station} (quiet : u.Still) : u.grantTest.Still := by
      rw [show u.grantTest = u by simp [Station.grantTest, quiet.requests, grants]]
      exact quiet
    exact tested ⟨still.requests, still.frames, still.reports⟩

theorem dominantSpan_still (still : s.Still) : s.dominantSpan.Still := by
  have empty := still.frames
  unfold Station.dominantSpan Station.goDown
  dsimp only
  split
  · simp only [empty, List.foldl_nil]
    exact ⟨still.requests, rfl, still.reports⟩
  · exact ⟨still.requests, still.frames, still.reports⟩

theorem driveFault_still (still : s.Still) (dead : s.live = false) (g : Nat) (active : Bool) :
    (s.driveFault g active).Still := by
  have stopped : ({ s with drive.inputs := groupBit g active s.drive.inputs } : Station).live = false := dead
  unfold Station.driveFault
  dsimp only
  rw [stopped]
  exact ⟨still.requests, still.frames, still.reports⟩

variable {c : Instr} {f : Station → Station}

theorem still_finish (still : s.Still) : s.finish.Still := by
  rw [finish_settled s still.reports]
  exact still

theorem still_of_perform (still : s.Still) (dead : s.live = false) (meaning : ∀ u, exec c u = perform c f u)
    (keeps : ∀ t, t.Still → t.live = false → (f t).Still) : (effect c s).Still := by
  rw [effect_perform meaning]
  exact keeps _ ⟨still.requests, still.frames, still.reports⟩ dead

theorem still_of_performFinish (still : s.Still) (dead : s.live = false)
    (meaning : ∀ u, exec c u = performFinish c f u) (keeps : ∀ t, t.Still → t.live = false → (f t).Still) :
    (effect c s).Still := by
  rw [effect_performFinish meaning]
  exact still_finish (keeps _ ⟨still.requests, still.frames, still.reports⟩ dead)

theorem whenLive_dead (dead : s.live = false) : whenLive f s = s := by simp [whenLive, dead]

theorem still_of_live (still : s.Still) (dead : s.live = false) (meaning : ∀ u, exec c u = perform c (whenLive f) u) :
    (effect c s).Still :=
  still_of_perform still dead meaning fun _ quiet stopped => (whenLive_dead stopped).symm ▸ quiet

theorem still_of_liveFinish (still : s.Still) (dead : s.live = false)
    (meaning : ∀ u, exec c u = performFinish c (whenLive f) u) : (effect c s).Still :=
  still_of_performFinish still dead meaning fun _ quiet stopped => (whenLive_dead stopped).symm ▸ quiet

theorem still_of_vitals (still : s.Still) (same : (effect c s).vitals = s.vitals) : (effect c s).Still :=
  have empty := empty_of_vitals ⟨still.requests, still.frames⟩ same
  ⟨empty.1, empty.2, effect_settled c s still.reports⟩

theorem still_of_receiving (still : s.Still) (meaning : ∀ u, exec c u = perform c (whenReceiving f) u)
    (same : ∀ t, (f t).vitals = t.vitals) : (effect c s).Still :=
  still_of_vitals still (by
    rw [effect_perform meaning]
    unfold whenReceiving
    split
    · exact same _
    · rfl)

end

theorem serving_dead {s : Station} (dead : s.live = false) : s.serving = false := by simp [Station.serving, dead]

/-- Where the blocks do not run, the rows that begin and end no start leave every queue empty. -/
theorem effect_still (c : Instr) (ordinary : startRow c = false) {s : Station} (still : s.Still)
    (dead : s.live = false) : (effect c s).Still := by
  match c with
  | .readerBreak r =>
    exact still_of_receiving still (fun _ => rfl) (readerBreak_vitals · r)
  | .readerCharacter r b stop => exact still_of_receiving still (fun _ => rfl) (readerCharacter_vitals · r b stop)
  | .readerCharacterTimeout r => exact still_of_receiving still (fun _ => rfl) (characterTimeout_vitals · r)
  | .lockerTap tap =>
    refine still_of_performFinish still dead (f := fun t => if t.serving then (t.reach tap.time).lockerTap tap else t)
      (fun _ => rfl) fun t quiet stopped => ?_
    simpa [serving_dead stopped] using quiet
  | .cabinTap n tap =>
    refine still_of_perform still dead (f := fun t => if t.serving then (t.reach tap.time).cabinTap n tap else t)
      (fun _ => rfl) fun t quiet stopped => ?_
    simpa [serving_dead stopped] using quiet
  | .dominantWatchExpiry =>
    refine still_of_performFinish still dead (fun _ => rfl) fun t quiet _ => ?_
    rcases whenTracking_cases t Station.dominantSpan with e | e
    · exact e.symm ▸ dominantSpan_still quiet
    · exact e.symm ▸ quiet
  | .driveFault g active =>
    exact still_of_performFinish still dead (fun _ => rfl) fun t quiet stopped => driveFault_still quiet stopped g active
  | .driveSupplyLow => exact still_of_performFinish still dead (fun _ => rfl) fun t quiet _ => supplyLow_still quiet
  | .driveSupplyRise =>
    exact still_of_perform still dead (f := Station.supplyRise) (fun _ => rfl) fun t quiet _ =>
      ⟨quiet.requests, quiet.frames, quiet.reports⟩
  | .driveSupplySag =>
    exact still_of_perform still dead (f := Station.supplySag) (fun _ => rfl) fun t quiet _ =>
      ⟨quiet.requests, quiet.frames, quiet.reports⟩
  | .holdDownRelease => exact still_of_perform still dead (fun _ => rfl) fun t quiet _ => releaseHoldDown_still quiet
  | .recessiveSpan =>
    refine still_of_perform still dead (fun _ => rfl) fun t quiet _ => ?_
    rcases whenTracking_cases t (fun t => { t.clearWatch with link.recessiveSeen := t.link.recessiveSeen || !t.link.up })
      with e | e
    · rw [e]
      exact ⟨quiet.requests, quiet.frames, quiet.reports⟩
    · exact e.symm ▸ quiet
  | .resetLineHigh =>
    refine still_of_vitals still ?_
    rw [effect_perform (f := fun t => ({ t with restart.resetLineLow := false } : Station).endCause) (fun _ => rfl)]
    exact endCause_vitals _
  | .panelFrame =>
    refine still_of_vitals still ?_
    rw [effect_perform (f := Station.panelFrame) (fun _ => rfl)]
    exact panelFrame_vitals _
  | .logicSupplyLow | .logicSupplyLost | .logicSupplyRestored _ _ | .resetLineLow | .warmStartEnd _ _ _ => cases ordinary
  | .frameAttemptStart | .arbitrationLost | .frameSpoiled _ _ | .frameBroken _ | .neighbourStale _
  | .redirectRecordExpiry _ | .minuteTick | .boltWaitExpiry _ | .doorOpened _ | .doorClosed _ | .boltEvent _ _
  | .pullEnd _ | .jamRestEnd _ | .slotRestEnd _ | .cabinClockTick | .graceExpiry _ | .admitTimerExpiry _
  | .vacateTimerExpiry _ | .presenceSeen _ | .presenceConfirmed _ | .presenceClear _ | .latchEvent _ _
  | .cursorTimerExpiry | .messageHoldExpiry | .pairTurn | .scrollStep | .recoveryWindowExpiry | .filterLoadEnd
  | .senseSample _ => exact still_of_live still dead fun _ => rfl
  | .claimSendDeadline _ | .claimWindowEnd _ | .bitError | .ownFrameDelivered | .attemptSpoiled
  | .frameDiscarded _ _ _ | .heldReceived _ _ | .yieldReceived _ _ | .freeReceived _ _ | .claimReceived _ _
  | .recountReceived _ _ | .recallReceived _ _ | .tallyReceived _ _ | .orderBadCode _ _ | .setupLockers _
  | .setupCabins _ | .setDay _ | .openLocker _ | .endHolding _ | .lockerServiceOff _ | .lockerServiceOn _
  | .cabinServiceOff _ | .cabinServiceOn _ | .clearFaultLocker _ | .clearFaultCabin _ | .clearFaultGroup _
  | .takeCountersSnapshot _ | .readCounters _ | .readLocker _ | .readCabins _ | .findParty _ | .restart _
  | .restartWaitExpiry | .tallyTimer | .grantWaitExpiry _ | .doorWaitExpiry _ =>
    exact still_of_liveFinish still dead fun _ => rfl

/-! ### The outputs stay off (O3) -/

theorem warmEnd_driveSafe {s : Station} (safe : s.DriveSafe) (strap : BitVec 5) (zone : BitVec 3) (damage : BitVec 16) :
    (s.warmEnd strap zone damage).finish.DriveSafe := by
  have stays : s.finish.DriveSafe := stays_driveSafe safe rfl rfl rfl
  unfold Station.warmEnd
  split
  next cause warm =>
    have still : s.Still := still_of_dead safe (by simp [Station.live, warm])
    split
    · dsimp only
      split
      · obtain ⟨t, start, requests, frames, reports, runs, leads⟩ :=
          completeWarm_begins { s with restart.strapPins := strap, restart.zonePins := zone } cause strap zone
        exact driveSafe_of_begun (s := { s with restart.strapPins := strap, restart.zonePins := zone })
          ⟨still.requests, still.frames, still.reports⟩ start requests frames reports (runs.imp id id) leads
      · exact coldStart_driveSafe _ _ _
    · exact stays
  · exact stays
  · exact stays

theorem supplyRestored_driveSafe {s : Station} (safe : s.DriveSafe) (strap : BitVec 5) (zone : BitVec 3) :
    (s.supplyRestored strap zone).finish.DriveSafe := by
  unfold Station.supplyRestored
  dsimp only
  split
  · exact coldStart_driveSafe _ _ _
  · refine stays_driveSafe safe ((endCause_vitals _).trans ?_) ?_ ?_
    · rfl
    · rw [endCause_link]
    · rw [endCause_link]

theorem effect_driveSafe (c : Instr) (s : Station) (safe : s.DriveSafe) : (effect c s).DriveSafe := by
  cases row : startRow c with
  | false =>
    cases live : s.live with
    | true => exact driveSafe_of_live safe.off live (effect_leads c row s)
    | false => exact (effect_still c row (still_of_dead safe live) live).driveSafe
  | true =>
    unfold startRow at row
    split at row
    next =>
      rw [effect_perform (f := fun t => ({ t with restart.logicSupply := .low } : Station).causeArrives .supplyLow)
        (fun _ => rfl)]
      exact causeArrives_driveSafe (s := { s.take _ with restart.logicSupply := .low })
        ⟨safe.released, safe.sound, safe.quiet⟩ _
    next =>
      rw [effect_perform (f := fun t => ({ t.loseVolatile with
        restart.logicSupply := .lost, restart.phase := .off } : Station)) (fun _ => rfl)]
      exact Station.Still.driveSafe ⟨rfl, rfl, rfl⟩
    next strap zone =>
      rw [effect_performFinish (f := Station.supplyRestored strap zone) (fun _ => rfl)]
      exact supplyRestored_driveSafe (s := s.take _) ⟨safe.released, safe.sound, safe.quiet⟩ strap zone
    next =>
      rw [effect_perform (f := fun t => ({ t with restart.resetLineLow := true } : Station).causeArrives .resetLine)
        (fun _ => rfl)]
      exact causeArrives_driveSafe (s := { s.take _ with restart.resetLineLow := true })
        ⟨safe.released, safe.sound, safe.quiet⟩ _
    next strap zone damage =>
      rw [effect_performFinish (f := Station.warmEnd strap zone damage) (fun _ => rfl)]
      exact warmEnd_driveSafe (s := s.take _) ⟨safe.released, safe.sound, safe.quiet⟩ strap zone damage
    next => cases row

/-- Settles O3, as every row keeps the outputs off and a start quiet. -/
theorem driveSafeKept : Obligations.DriveSafeKept :=
  step_keeps (fun _ safe => ⟨safe.released, safe.sound, safe.quiet⟩) effect_driveSafe


end Sys2Proof.Machine

/-!
PROOFS. The transmit queue (O10): its order, what is evicted, and what becomes of an offered and of a withdrawn frame.
-/

namespace Sys2Proof.Machine

open Sys2Proof

/-! ### The order of the queue (R134) -/

/-- R134: `g` stands before `h`: by kind code, and then by queue time. -/
def TxFrame.before (g h : TxFrame) : Prop :=
  kindCode g.kind < kindCode h.kind ∨ (kindCode g.kind = kindCode h.kind ∧ g.queueTime ≤ h.queueTime)

theorem insertFrame_perm (f : TxFrame) (queue : List TxFrame) : (insertFrame f queue).Perm (f :: queue) := by
  unfold insertFrame
  refine List.perm_middle.trans ?_
  rw [List.takeWhile_append_dropWhile]

/-- In an ordered queue every frame behind the place of `f` has a larger kind code. -/
theorem behind_of_dropWhile {code : Nat} {queue : List TxFrame} (ordered : queue.Pairwise TxFrame.before) :
    ∀ g ∈ queue.dropWhile (fun g => decide (kindCode g.kind ≤ code)), code < kindCode g.kind := by
  induction queue with
  | nil => simp
  | cons x xs ih =>
    obtain ⟨first, rest⟩ := List.pairwise_cons.1 ordered
    by_cases low : kindCode x.kind ≤ code
    · simpa [low] using ih rest
    · intro g mem
      simp only [low, decide_false, Bool.false_eq_true, not_false_eq_true, List.dropWhile_cons_of_neg] at mem
      rcases List.mem_cons.1 mem with rfl | later
      · omega
      · rcases first g later with less | ⟨same, -⟩ <;> omega

theorem insertFrame_ordered {f : TxFrame} {queue : List TxFrame} (newest : ∀ g ∈ queue, g.queueTime ≤ f.queueTime)
    (ordered : queue.Pairwise TxFrame.before) : (insertFrame f queue).Pairwise TxFrame.before := by
  have behind := behind_of_dropWhile (code := kindCode f.kind) ordered
  have whole := ordered
  rw [← List.takeWhile_append_dropWhile (p := fun g => decide (kindCode g.kind ≤ kindCode f.kind)) (l := queue),
    List.pairwise_append] at whole
  obtain ⟨front, back, across⟩ := whole
  have ahead (g : TxFrame) (mem : g ∈ queue.takeWhile fun g => decide (kindCode g.kind ≤ kindCode f.kind)) :
      g.before f := by
    have low : kindCode g.kind ≤ kindCode f.kind := by simpa using List.mem_takeWhile_imp mem
    have older := newest g ((List.takeWhile_prefix _).subset mem)
    rcases Nat.lt_or_eq_of_le low with less | same
    · exact .inl less
    · exact .inr ⟨same, older⟩
  unfold insertFrame
  refine List.pairwise_append.2 ⟨front, List.pairwise_cons.2 ⟨fun g mem => .inl (behind g mem), back⟩, ?_⟩
  intro g mem h later
  rcases List.mem_cons.1 later with rfl | rest
  · exact ahead g mem
  · exact across g mem h rest

/-! ### Withdrawn frames (R137) -/

theorem withdrawFrame_other {s : Station} {id : Nat} (other : ∀ f ∈ s.link.queue, f.id ≠ id) :
    s.withdrawFrame id = s := by
  have kept : s.link.queue.filter (fun g => g.onLine || decide (g.id ≠ id)) = s.link.queue :=
    List.filter_eq_self.2 fun g mem => by simp [other g mem]
  have same : (s.link.queue.map fun g => if g.id = id then { g with withdrawn := true } else g) = s.link.queue := by
    conv_rhs => rw [← List.map_id s.link.queue]
    exact List.map_congr_left fun g mem => if_neg (other g mem)
  unfold Station.withdrawFrame
  rw [kept, same]

theorem withdrawFrame_split {s : Station} {before after : List TxFrame} {f : TxFrame}
    (queue : s.link.queue = before ++ f :: after) (ids : (s.link.queue.map (·.id)).Nodup) :
    s.withdrawFrame f.id =
      { s with link.queue := before ++ (if f.onLine then [{ f with withdrawn := true }] else []) ++ after } := by
  have apart := id_apart (queue ▸ ids)
  have spared (l : List TxFrame) (part : ∀ g ∈ l, g ∈ before ++ after) :
      (l.filter fun g => g.onLine || decide (g.id ≠ f.id)).map
        (fun g => if g.id = f.id then { g with withdrawn := true } else g) = l := by
    rw [List.filter_eq_self.2 fun g mem => by simp [apart g (part g mem)]]
    conv_rhs => rw [← List.map_id l]
    exact List.map_congr_left fun g mem => if_neg (apart g (part g mem))
  unfold Station.withdrawFrame
  rw [queue, List.filter_append, List.filter_cons, List.map_append]
  rw [spared before fun g mem => List.mem_append_left _ mem]
  have rest := spared after fun g mem => List.mem_append_right _ mem
  cases on : f.onLine with
  | true =>
    rw [if_pos (by simp), List.map_cons, rest, if_pos rfl, if_pos rfl, List.append_assoc, List.singleton_append, on]
  | false => rw [if_neg (by simp), rest, if_neg nofun, List.append_nil]

/-! ### Offered frames (R135, R136, R140) -/

theorem waitingTally_iff (queue : List TxFrame) :
    waitingTally queue = true ↔ ∃ g ∈ queue, g.kind = .tally ∧ g.onLine = false := by
  simp [waitingTally]

theorem refused_iff (s : Station) (kind : Kind) :
    (!s.link.up && decide (kind ≠ .recall) && decide (kind ≠ .report)) = true ↔
      ¬(s.link.up = true ∨ kind = .recall ∨ kind = .report) := by
  simp [and_assoc]

theorem replaces_iff (queue : List TxFrame) (kind : Kind) :
    (decide (kind = .tally) && waitingTally queue) = true ↔
      kind = .tally ∧ ∃ g ∈ queue, g.kind = .tally ∧ g.onLine = false := by
  rw [Bool.and_eq_true, waitingTally_iff, decide_eq_true_eq]

/-- Settles O10, clause by clause. -/
theorem transmitQueueRule : Obligations.TransmitQueueRule := by
  refine ⟨⟨fun f queue newest ordered => ⟨insertFrame_ordered newest ordered, insertFrame_perm f queue⟩,
    fun code queue => ?_⟩, fun before f after s queue ids => ⟨fun off => ?_, fun on => ?_⟩,
    fun id s other => withdrawFrame_other other, ?_⟩
  · cases found : evictable code queue with
    | some g => exact evictable_some found
    | none => exact evictable_none found
  · rw [withdrawFrame_split queue ids, off]
    simp
  · rw [withdrawFrame_split queue ids, on]
    simp
  · intro kind content owner role s f t counted admitted waiting
    have enters : admitted → (!s.link.up && decide (kind ≠ .recall) && decide (kind ≠ .report)) ≠ true :=
      fun yes refused => (refused_iff s kind).1 refused yes
    refine ⟨fun no => if_pos ((refused_iff s kind).2 no), fun yes tally stands => ?_, fun yes fresh room => ?_,
      fun yes fresh full => ⟨fun g found => ?_, fun none => ?_⟩⟩
    · exact (if_neg (enters yes)).trans (if_pos ((replaces_iff _ kind).2 ⟨tally, stands⟩))
    · exact (if_neg (enters yes)).trans ((if_neg (mt (replaces_iff _ kind).1 fresh)).trans (if_pos room))
    · refine (if_neg (enters yes)).trans ((if_neg (mt (replaces_iff _ kind).1 fresh)).trans
        ((if_neg (Nat.not_lt.2 full)).trans ?_))
      simp only [found]
      rfl
    · refine (if_neg (enters yes)).trans ((if_neg (mt (replaces_iff _ kind).1 fresh)).trans
        ((if_neg (Nat.not_lt.2 full)).trans ?_))
      simp only [none]
      rfl

end Sys2Proof.Machine

/-!
PROOFS. Requests, grants and latch targets (O11, O12): what each of the drive arbiter's operations does, said once.
-/

namespace Sys2Proof.Machine

open Sys2Proof

/-! ### Records of a table with one key each -/

section

variable {α κ : Type} [DecidableEq κ] {key : α → κ} {before after : List α} {x : α}

omit [DecidableEq κ] in
theorem key_apart (keys : ((before ++ x :: after).map key).Nodup) : ∀ y ∈ before ++ after, key y ≠ key x := by
  intro y mem same
  simp only [List.map_append, List.map_cons, List.nodup_append, List.nodup_cons, List.mem_map] at keys
  rcases List.mem_append.1 mem with front | back
  · exact keys.2.2 _ ⟨y, front, rfl⟩ _ (by simp) same
  · exact keys.2.1.1 ⟨y, back, same⟩

theorem updateWhere_split (keys : ((before ++ x :: after).map key).Nodup) (change : α → α) :
    updateWhere (fun y => decide (key y = key x)) change (before ++ x :: after) = before ++ change x :: after := by
  have spared (l : List α) (part : ∀ y ∈ l, y ∈ before ++ after) :
      updateWhere (fun y => decide (key y = key x)) change l = l :=
    updateWhere_of_forall _ _ _ fun y mem same => absurd (of_decide_eq_true same) (key_apart keys y (part y mem))
  have front := spared before fun y mem => List.mem_append_left _ mem
  have back := spared after fun y mem => List.mem_append_right _ mem
  unfold updateWhere at *
  rw [List.map_append, List.map_cons, front, back, if_pos (by simp)]

theorem filter_key_split (keys : ((before ++ x :: after).map key).Nodup) :
    (before ++ x :: after).filter (fun y => decide (key y ≠ key x)) = before ++ after := by
  have kept : ∀ y ∈ before ++ after, decide (key y ≠ key x) = true := fun y mem =>
    decide_eq_true (key_apart keys y mem)
  rw [List.filter_append, List.filter_cons_of_neg (by simp), ← List.filter_append, List.filter_eq_self.2 kept]

end

variable (s : Station)

/-! ### Requests (R145) -/

theorem enqueue_standing {output : Nat} (stands : ∃ r ∈ s.drive.queue, r.output = output) (purpose : DrivePurpose) :
    s.enqueue output purpose = s := by
  obtain ⟨r, mem, same⟩ := stands
  have found : (s.request? output).isSome := by
    rw [Station.request?, List.find?_isSome]
    exact ⟨r, mem, decide_eq_true same⟩
  exact if_pos found

theorem enqueue_fresh {output : Nat} (fresh : ∀ r ∈ s.drive.queue, r.output ≠ output) (purpose : DrivePurpose) :
    s.enqueue output purpose =
      { s with drive.queue := s.drive.queue ++ [{ output, purpose, attempt := 1, phase := .waiting }] } := by
  have none : s.request? output = none := List.find?_eq_none.2 fun r mem => by simp [fresh r mem]
  exact if_neg (by simp [none])

/-! ### Slots and grants (R146, R147) -/

theorem slotFree_iff (k : Slot) :
    s.slotFree k = true ↔ k.restUntil = none ∧ ∀ r ∈ s.drive.queue, ∀ e, r.phase ≠ .pull k.number e := by
  rw [Station.slotFree, Bool.and_eq_true, Option.isNone_iff_eq_none, Bool.not_eq_true', List.any_eq_false]
  refine and_congr_right fun _ => forall₂_congr fun r _ => ?_
  cases phase : r.phase with
  | pull slot ends =>
    simp only [decide_eq_true_eq, ne_eq, DrivePhase.pull.injEq, not_and]
    exact ⟨fun other _ same => absurd same other, fun other same => other ends same rfl⟩
  | _ => simp

theorem slot_taken {k : Slot} (taken : s.slotFree k = false) :
    k.restUntil ≠ none ∨ ∃ r ∈ s.drive.queue, ∃ e, r.phase = .pull k.number e := by
  by_contra both
  simp only [not_or, not_not, not_exists, not_and] at both
  exact Bool.eq_false_iff.1 taken ((slotFree_iff s k).2 both)

theorem freeSlot_none {k : Slot} (none : s.freeSlot = none) (mem : k ∈ s.drive.slots) :
    k.restUntil ≠ .none ∨ ∃ r ∈ s.drive.queue, ∃ e, r.phase = .pull k.number e :=
  slot_taken s (Bool.eq_false_iff.2 (List.find?_eq_none.1 (Option.map_eq_none_iff.1 none) k mem))

theorem freeSlot_some {k : Nat} (free : s.freeSlot = some k) :
    ∃ before slot after, s.drive.slots = before ++ slot :: after ∧ slot.number = k ∧
      slot.restUntil = none ∧ (∀ r ∈ s.drive.queue, ∀ e, r.phase ≠ .pull k e) ∧
      ∀ x ∈ before, x.restUntil ≠ none ∨ ∃ r ∈ s.drive.queue, ∃ e, r.phase = .pull x.number e := by
  obtain ⟨slot, found, rfl⟩ := Option.map_eq_some_iff.1 free
  obtain ⟨open', before, after, slots, taken⟩ := List.find?_eq_some_iff_append.1 found
  obtain ⟨rests, empty⟩ := (slotFree_iff s slot).1 open'
  exact ⟨before, slot, after, slots, rfl, rests, empty, fun x mem => slot_taken s (by simpa using taken x mem)⟩

theorem grantable_none : s.grantable = none ↔
    ∀ r ∈ s.drive.queue, r.phase = .waiting → s.faulted (groupOf r.output) = true := by
  simp [Station.grantable, List.find?_eq_none]

theorem grantable_first {before after : List DriveRequest} {r : DriveRequest}
    (queue : s.drive.queue = before ++ r :: after)
    (first : ∀ q ∈ before, q.phase = .waiting → s.faulted (groupOf q.output) = true) (waits : r.phase = .waiting)
    (sound : s.faulted (groupOf r.output) = false) : s.grantable = some r := by
  refine List.find?_eq_some_iff_append.2 ⟨by simp [waits, sound], before, after, queue, fun q mem => ?_⟩
  by_cases w : q.phase = .waiting
  · simp [w, first q mem w]
  · simp [w]

theorem grantOne_heldDown (held : s.restart.holdDown = true) : s.grantOne = none := if_pos held

theorem grantOne_noSlot (none : s.freeSlot = none) : s.grantOne = .none := by
  unfold Station.grantOne
  rw [none]
  split <;> rfl

theorem grantOne_noRequest (none : s.grantable = none) : s.grantOne = .none := by
  unfold Station.grantOne
  rw [none]
  split
  · rfl
  · split
    next h => cases h
    next => rfl

theorem grantOne_eq {slot : Nat} {r : DriveRequest} (released : s.restart.holdDown = false)
    (free : s.freeSlot = some slot) (first : s.grantable = some r) :
    s.grantOne =
      if s.atTarget r then some ((s.removeRequest r.output).latchDone (r.output - 59))
      else some (s.startPull r slot) := by
  unfold Station.grantOne
  rw [if_neg (by simp [released]), free, first]

theorem pullTime_eq (t attempt : Nat) :
    pullTime t attempt =
      min 250 (match attempt with
        | 1 => t
        | 2 => 3 * t / 2
        | _ => 2 * t) := by
  match attempt with
  | 0 => rfl
  | 1 => rfl
  | 2 => rfl
  | n + 3 => simp [pullTime]

theorem atTarget_false {r : DriveRequest}
    (away : (∃ p, r.purpose = .bolt p) ∨ ∃ target, r.purpose = .latch target ∧ s.latchLevel (r.output - 59) ≠ target) :
    s.atTarget r = false := by
  rcases away with ⟨p, bolt⟩ | ⟨target, latch, other⟩
  · simp [Station.atTarget, bolt]
  · simp [Station.atTarget, latch, other]

/-- R148: a request of a queue with one request to an output enters PULL at its place. -/
theorem startPull_split {before after : List DriveRequest} {r : DriveRequest}
    (queue : s.drive.queue = before ++ r :: after) (outputs : (s.drive.queue.map (·.output)).Nodup) (k : Nat) :
    s.startPull r k =
      { s with
        drive.queue :=
          before ++ { r with phase := .pull k (s.now + pullTime s.orders.setup.pullTime r.attempt) } :: after } := by
  unfold Station.startPull Station.changeRequest
  rw [queue] at outputs ⊢
  exact congrArg (fun q => ({ s with drive.queue := q } : Station))
    (updateWhere_split (key := fun r : DriveRequest => r.output) outputs _)

theorem removeRequest_split {before after : List DriveRequest} {r : DriveRequest}
    (queue : s.drive.queue = before ++ r :: after) (outputs : (s.drive.queue.map (·.output)).Nodup) :
    s.removeRequest r.output = { s with drive.queue := before ++ after } := by
  unfold Station.removeRequest
  rw [queue] at outputs ⊢
  exact congrArg (fun q => ({ s with drive.queue := q } : Station))
    (filter_key_split (key := fun r : DriveRequest => r.output) outputs)

/-! ### The latch of a cabin (R87, R88) -/

/-- The request for a latch's target enters at the tail, and LATCH_MOVING is set. -/
def Station.latchQueued (n : Nat) (x : Latch) (s : Station) : Station :=
  ({ s with
    drive.queue := s.drive.queue ++ [{ output := 59 + n, purpose := .latch x, attempt := 1, phase := .waiting }] } :
    Station).changeCabin n fun d => { d with latchMoving := true }

theorem enqueueLatch_unwanted {n : Nat} {c : Cabin} (cabin : s.cabin? n = some c) (none : latchWanted c = none) :
    s.enqueueLatch n = s := by
  unfold Station.enqueueLatch
  rw [cabin, Option.bind_some, none]

theorem enqueueLatch_wanted {n : Nat} {c : Cabin} {x : Latch} (cabin : s.cabin? n = some c)
    (wanted : latchWanted c = some x) (fresh : ∀ r ∈ s.drive.queue, r.output ≠ 59 + n) :
    s.enqueueLatch n = s.latchQueued n x := by
  unfold Station.enqueueLatch
  rw [cabin, Option.bind_some, wanted]
  exact congrArg (Station.changeCabin n _) (enqueue_fresh s fresh (.latch x))

theorem compareLatch_unwanted {n : Nat} {c : Cabin} (cabin : s.cabin? n = some c) (none : latchWanted c = none) :
    s.compareLatch n = s := by
  unfold Station.compareLatch
  rw [cabin, Option.bind_some, none]

theorem compareLatch_wanted {n : Nat} {c : Cabin} {x : Latch} (cabin : s.cabin? n = some c)
    (wanted : latchWanted c = some x) (fresh : ∀ r ∈ s.drive.queue, r.output ≠ 59 + n) :
    s.compareLatch n = (s.latchQueued n x).grantTest := by
  have queued := enqueueLatch_wanted s cabin wanted fresh
  unfold Station.compareLatch
  rw [cabin, Option.bind_some, wanted, ← queued]

theorem latchWanted_none {c : Cabin}
    (settled : c.latchMoving = true ∨ c.latchTarget = none ∨ c.latchTarget = some c.latchPosition) :
    latchWanted c = none := by
  unfold latchWanted
  rcases settled with moving | free | there
  · split
    · rfl
    · simp [moving]
  · rw [free]
  · rw [there]
    simp

theorem latchWanted_some {c : Cabin} {x : Latch} (still : c.latchMoving = false) (target : c.latchTarget = some x)
    (away : c.latchPosition ≠ x) : latchWanted c = some x := by
  simp [latchWanted, target, still, away]

/-! ### The grant rule (O11) -/

theorem cabin?_changed {n : Nat} {c : Cabin} (cabin : s.cabin? n = some c) (f : Cabin → Cabin)
    (keeps : ∀ d, (f d).number = d.number) : (s.changeCabin n f).cabin? n = some (f c) := by
  rw [cabin?_changeCabin s n f keeps, cabin]
  rfl

theorem latchEnded_unwanted {n : Nat} {c : Cabin} (cabin : s.cabin? n = some c)
    (there : c.latchTarget = none ∨ c.latchTarget = some c.latchPosition) :
    s.latchDone n = s.changeCabin n fun d => { d with latchMoving := false } := by
  refine enqueueLatch_unwanted _ (c := { c with latchMoving := false }) ?_ (latchWanted_none (.inr there))
  exact cabin?_changed s cabin _ fun _ => rfl

theorem latchEnded_wanted {n : Nat} {c : Cabin} {x : Latch} (cabin : s.cabin? n = some c)
    (target : c.latchTarget = some x) (away : x ≠ c.latchPosition) (fresh : ∀ r ∈ s.drive.queue, r.output ≠ 59 + n) :
    s.latchDone n = (s.changeCabin n fun d => { d with latchMoving := false }).latchQueued n x := by
  refine enqueueLatch_wanted _ (c := { c with latchMoving := false }) ?_
    (latchWanted_some rfl target (Ne.symm away)) fresh
  exact cabin?_changed s cabin _ fun _ => rfl

theorem grantTest_of_one {t : Station} (one : s.grantOne = some t) :
    s.grantTest = grants (2 * s.drive.queue.length - 1) t := by
  have some : s.drive.queue ≠ [] := fun empty => by
    rw [grantOne_noRequest s ((grantable_none s).2 (by simp [empty]))] at one
    cases one
  have long := List.length_pos_iff.2 some
  obtain ⟨k, fuel⟩ : ∃ k, 2 * s.drive.queue.length = k + 1 := ⟨2 * s.drive.queue.length - 1, by omega⟩
  rw [Station.grantTest, fuel, grants, one]
  rfl

theorem grantTest_seen (seen : s.LatchesSeen) :
    s.grantTest.grantOne = none ∧ ∀ t, s.grantOne = some t → s.grantTest = t.grantTest := by
  refine ⟨(grants_enough seen (grantsDue_le s) (grantsDue_le s)).2, fun t one => ?_⟩
  obtain ⟨seen', fewer⟩ := grantOne_spec s seen one
  rw [grantTest_of_one s one]
  have due := grantsDue_le s
  exact (grants_enough seen' (by omega) (grantsDue_le t)).1

/-- Settles O11, clause by clause. -/
theorem grantRule : Obligations.GrantRule := by
  intro s
  have none (one : s.grantOne = none) : s.grantOne = .none ∧ s.grantTest = s := ⟨one, grantTest_none s one⟩
  refine ⟨fun output purpose => ⟨fun stands => ?_, fun fresh => ?_⟩, fun held => none (grantOne_heldDown s held),
    fun noSlot => none (grantOne_noSlot s noSlot), fun noSlot x mem => freeSlot_none s noSlot mem,
    fun noRequest => none (grantOne_noRequest s noRequest), grantable_none s, ?_, ?_, fun t one => grantTest_of_one s one,
    grantTest_seen s, fun k free => freeSlot_some s free⟩
  · exact congrArg Station.grantTest (enqueue_standing s stands purpose)
  · exact congrArg Station.grantTest (enqueue_fresh s fresh purpose)
  · intro k before r after released free queue first waits sound outputs away
    rw [grantOne_eq s released free (grantable_first s queue first waits sound), atTarget_false s away, if_neg nofun,
      startPull_split s queue outputs]
    exact congrArg
      (fun t => some ({ s with drive.queue := before ++ { r with phase := .pull k (s.now + t) } :: after } : Station))
      (pullTime_eq s.orders.setup.pullTime r.attempt)
  · intro k before r after target c released free queue first waits sound outputs cabinRange latch there cabin ended
    have removed := removeRequest_split s queue outputs
    have output : r.output = 59 + (r.output - 59) := by omega
    have at' : s.atTarget r = true := by simp [Station.atTarget, latch, there]
    rw [grantOne_eq s released free (grantable_first s queue first waits sound), at', if_pos rfl, removed]
    refine ⟨fun settled => congrArg some (latchEnded_unwanted _ cabin settled), fun x aim away => congrArg some ?_⟩
    have others := key_apart (key := fun q : DriveRequest => q.output) (queue ▸ outputs)
    have ended := latchEnded_wanted { s with drive.queue := before ++ after } cabin aim away
      fun q mem => output ▸ others q mem
    unfold Station.latchQueued at ended
    rw [← output] at ended
    exact ended

end Sys2Proof.Machine

/-!
PROOFS. A latch target is set (O12).
-/

namespace Sys2Proof.Machine

open Sys2Proof

variable (s : Station)

theorem setLatchTarget_idle {n : Nat} (target : Option Latch) (idle : s.request? (59 + n) = none) :
    s.setLatchTarget n target = (s.changeCabin n fun d => { d with latchTarget := target }).compareLatch n := by
  unfold Station.setLatchTarget
  dsimp only
  rw [show (s.changeCabin n fun d => { d with latchTarget := target }).request? (cabinOutput n) = none from idle]

theorem setLatchTarget_runsOn {n : Nat} {target : Option Latch} {r : DriveRequest}
    (flight : s.request? (59 + n) = some r)
    (kept : some r.purpose = target.map DrivePurpose.latch ∨ ∃ slot e, r.phase = .pull slot e) :
    s.setLatchTarget n target = s.changeCabin n fun d => { d with latchTarget := target } := by
  unfold Station.setLatchTarget
  dsimp only
  rw [show (s.changeCabin n fun d => { d with latchTarget := target }).request? (cabinOutput n) = some r from flight]
  rcases kept with same | ⟨slot, e, pull⟩
  · exact if_pos same
  · dsimp only
    split
    · rfl
    · rw [pull]

/-- R88: the cabin with its latch request withdrawn and its target set. -/
def Station.latchWithdrawn (n : Nat) (target : Option Latch) (s : Station) : Station :=
  ({ s with drive.queue := s.drive.queue.filter fun q => decide (q.output ≠ 59 + n) } : Station).changeCabin n fun d =>
    { d with latchTarget := target, latchMoving := false }

theorem withdrawDrive_unpulled {output : Nat} {r : DriveRequest} (found : s.request? output = some r)
    (unpulled : ∀ slot e, r.phase ≠ .pull slot e) : s.withdrawDrive output = s.removeRequest output := by
  unfold Station.withdrawDrive
  rw [found]
  dsimp only
  split
  next slot e pull => exact absurd pull (unpulled slot e)
  all_goals rfl

theorem setLatchTarget_withdraws {n : Nat} {target : Option Latch} {r : DriveRequest}
    (flight : s.request? (59 + n) = some r) (other : some r.purpose ≠ target.map DrivePurpose.latch)
    (unpulled : ∀ slot e, r.phase ≠ .pull slot e) :
    s.setLatchTarget n target = (s.latchWithdrawn n target).compareLatch n := by
  have found : (s.changeCabin n fun d => { d with latchTarget := target }).request? (cabinOutput n) = some r := flight
  have withdrawn := withdrawDrive_unpulled (s.changeCabin n fun d => { d with latchTarget := target }) found unpulled
  have twice := changeCabin_changeCabin ({ s with drive.queue := s.drive.queue.filter fun q => decide (q.output ≠ 59 + n) })
    n (fun d => { d with latchTarget := target }) (fun d => { d with latchMoving := false }) fun _ => rfl
  unfold Station.setLatchTarget
  dsimp only
  rw [found]
  dsimp only
  rw [if_neg other]
  split
  next slot e pull => exact absurd pull (unpulled slot e)
  next =>
    rw [withdrawn]
    exact congrArg (Station.compareLatch n) twice

/-- Settles O12: by whether a request is in flight, and by its target and its phase. -/
theorem latchTargetRule : Obligations.LatchTargetRule := by
  intro n target c s cabin t aimed requested
  have aim : aimed.cabin? n = some { c with latchTarget := target } := cabin?_changed s cabin _ fun _ => rfl
  refine ⟨fun idle => ?_, fun r flight => ⟨fun ⟨x, latch, same⟩ => ?_, fun other => ⟨fun slot e pull => ?_, fun unpulled => ?_⟩⟩⟩
  · have fresh : ∀ q ∈ s.drive.queue, q.output ≠ 59 + n := by
      simpa [Station.request?] using idle
    have started : t = aimed.compareLatch n := setLatchTarget_idle s target idle
    refine ⟨fun settled => ?_, fun x still same away => ?_⟩
    · exact started.trans (compareLatch_unwanted _ aim (latchWanted_none settled))
    · exact started.trans (compareLatch_wanted _ aim (latchWanted_some still same away) fresh)
  · exact setLatchTarget_runsOn s flight (.inl (by rw [latch, same]; rfl))
  · exact setLatchTarget_runsOn s flight (.inr ⟨slot, e, pull⟩)
  · have differs : some r.purpose ≠ target.map DrivePurpose.latch := by
      intro same
      obtain ⟨x, aimed, latch⟩ := Option.map_eq_some_iff.1 same.symm
      exact other x latch.symm aimed
    intro ended withdrawn
    have gone : withdrawn.cabin? n = some { c with latchTarget := target, latchMoving := false } :=
      cabin?_changed ended cabin _ fun _ => rfl
    have fresh : ∀ q ∈ withdrawn.drive.queue, q.output ≠ 59 + n := fun q mem => of_decide_eq_true (List.mem_filter.1 mem).2
    have started : t = withdrawn.compareLatch n := setLatchTarget_withdraws s flight differs unpulled
    refine ⟨fun settled => ?_, fun x same away => ?_⟩
    · exact started.trans (compareLatch_unwanted _ gone (latchWanted_none (.inr settled)))
    · exact started.trans (compareLatch_wanted _ gone (latchWanted_some rfl same away) fresh)

end Sys2Proof.Machine

/-!
PROOFS. The serving step (O13), and a new arrival's cabin.
-/

namespace Sys2Proof.Machine

open Sys2Proof

variable (s : Station)

theorem oldestWaiting_of_first {before after : List QueueEntry} {e : QueueEntry}
    (queue : s.cabins.queue = before ++ e :: after) (first : ∀ q ∈ before, q.state ≠ .waiting)
    (waits : e.state = .waiting) : s.oldestWaiting = some e :=
  List.find?_eq_some_iff_append.2 ⟨decide_eq_true waits, before, after, queue, fun q mem => by simpa using first q mem⟩

theorem oldestWaiting_none (served : ∀ q ∈ s.cabins.queue, q.state ≠ .waiting) : s.oldestWaiting = none :=
  List.find?_eq_none.2 fun q mem => by simpa using served q mem

theorem lowestFree_none (taken : ∀ c ∈ s.cabins.cabins, c.state ≠ .free) : s.lowestFree = none := by
  unfold Station.lowestFree
  rw [List.find?_eq_none.2 fun c mem => by simpa using taken c mem]
  rfl

/-- R85: in number order the first FREE record is the FREE cabin of lowest number. -/
theorem lowestFree_of_least {c : Cabin} (ordered : (s.cabins.cabins.map (·.number)).Pairwise (· < ·))
    (mem : c ∈ s.cabins.cabins) (free : c.state = .free)
    (least : ∀ d ∈ s.cabins.cabins, d.state = .free → c.number ≤ d.number) : s.lowestFree = some c.number := by
  obtain ⟨before, after, cabins⟩ := List.append_of_mem mem
  rw [cabins, List.map_append, List.map_cons, List.pairwise_append] at ordered
  obtain ⟨-, -, across⟩ := ordered
  have found : s.cabins.cabins.find? (fun d => decide (d.state = .free)) = some c := by
    refine List.find?_eq_some_iff_append.2 ⟨decide_eq_true free, before, after, cabins, fun d front => ?_⟩
    have less := across d.number (List.mem_map_of_mem front) c.number List.mem_cons_self
    have taken : d.state ≠ .free := fun isFree =>
      absurd (least d (cabins ▸ List.mem_append_left _ front) isFree) (Nat.not_le.2 less)
    simpa using taken
  unfold Station.lowestFree
  rw [found]
  rfl

theorem releaseCabin_reserves {e : QueueEntry} (oldest : s.oldestWaiting = some e) (n : Nat) :
    s.releaseCabin n = s.reserveCabin n e := by
  unfold Station.releaseCabin
  rw [oldest]

theorem releaseCabin_frees (served : s.oldestWaiting = none) (n : Nat) : s.releaseCabin n = s.freeCabin n := by
  unfold Station.releaseCabin
  rw [served]

/-- An entry back in its place, WAITING. -/
def Station.entryReturned (serial : BitVec 24) (s : Station) : Station :=
  s.changeEntry serial fun q => { q with state := .waiting, graceEnd := none }

theorem returnEntry_noCabin {serial : BitVec 24} (none : (s.entryReturned serial).lowestFree = none) :
    s.returnEntry serial = s.entryReturned serial := by
  unfold Station.returnEntry
  unfold Station.entryReturned at *
  dsimp only
  rw [none]

theorem returnEntry_serves {serial : BitVec 24} {n : Nat} {e : QueueEntry}
    (free : (s.entryReturned serial).lowestFree = some n) (oldest : (s.entryReturned serial).oldestWaiting = some e) :
    s.returnEntry serial = (s.entryReturned serial).reserveCabin n e := by
  unfold Station.returnEntry
  unfold Station.entryReturned at *
  dsimp only
  rw [free, oldest]

/-- Settles O13: by the oldest WAITING entry and the lowest FREE cabin. -/
theorem servingStep : Obligations.ServingStep := by
  intro s
  refine ⟨fun n before e after queue first waits => ?_, fun n served => ?_, fun serial => ⟨fun taken => ?_, ?_⟩⟩
  · exact releaseCabin_reserves s (oldestWaiting_of_first s queue first waits) n
  · exact releaseCabin_frees s (oldestWaiting_none s served) n
  · exact returnEntry_noCabin s (lowestFree_none _ taken)
  · intro c before e after ordered mem free least queue first waits
    exact returnEntry_serves s (lowestFree_of_least _ ordered mem free least)
      (oldestWaiting_of_first _ queue first waits)

end Sys2Proof.Machine

/-!
PROOFS. The announcement walk, the end of a holding, and the settling of a locker (O14).
-/

namespace Sys2Proof.Machine

open Sys2Proof

variable (s : Station)

/-! ### The announcement walk (R64) -/

/-- R64: the holding is UNANNOUNCED, at or behind the walk's position, and its locker is not listed. -/
def Station.walkDue (s : Station) (position : Nat) (h : Holding) : Prop :=
  h ∈ s.lockers.holdings ∧ h.unannounced = true ∧ position ≤ h.locker ∧
    ¬∃ x ∈ s.claims.announcements, x.locker = h.locker

/-- The holding found on a locker that the walk reaches is due. -/
theorem walkDue_of_found {position n : Nat} {h : Holding} (reached : position ≤ n)
    (found : s.lockers.holdings.find? (fun h => decide (h.locker = n) && h.unannounced &&
      !(s.claims.announcements.any fun a => decide (a.locker = h.locker))) = some h) :
    s.walkDue position h ∧ h.locker = n := by
  have test := List.find?_some found
  simp only [Bool.and_eq_true, decide_eq_true_eq, Bool.not_eq_true', List.any_eq_false] at test
  obtain ⟨⟨here, unannounced⟩, unlisted⟩ := test
  exact ⟨⟨List.mem_of_find?_eq_some found, unannounced, here.symm ▸ reached, fun ⟨x, mem, same⟩ => unlisted x mem same⟩,
    here⟩

theorem nextUnannounced_none {position : Nat} (none : ∀ h, ¬s.walkDue position h) :
    s.nextUnannounced position = .none := by
  refine List.findSome?_eq_none_iff.2 fun l mem => ?_
  cases found : s.lockers.holdings.find? _ with
  | none => rfl
  | some h =>
    have reached : position ≤ l.number := of_decide_eq_true (List.mem_filter.1 mem).2
    exact absurd (walkDue_of_found s reached found).1 (none h)

/-- The walk takes the due holding of lowest locker. -/
theorem nextUnannounced_least {position : Nat} {h : Holding} {l : Locker}
    (ordered : (s.lockers.lockers.map (·.number)).Pairwise (· < ·)) (due : s.walkDue position h)
    (least : ∀ g, s.walkDue position g → g = h ∨ h.locker < g.locker) (locker : s.locker? h.locker = some l) :
    s.nextUnannounced position = some h := by
  obtain ⟨stands, unannounced, reached, unlisted⟩ := due
  have number := locker?_number s locker
  have mem : l ∈ s.lockers.lockers := List.mem_of_find?_eq_some locker
  have hit : s.lockers.holdings.find? (fun h => decide (h.locker = l.number) && h.unannounced &&
      !(s.claims.announcements.any fun a => decide (a.locker = h.locker))) = some h := by
    have some : (s.lockers.holdings.find? (fun h => decide (h.locker = l.number) && h.unannounced &&
        !(s.claims.announcements.any fun a => decide (a.locker = h.locker)))).isSome := by
      rw [List.find?_isSome]
      refine ⟨h, stands, ?_⟩
      simp only [number, unannounced, Bool.and_true, decide_true, Bool.true_and, Bool.not_eq_true', List.any_eq_false]
      exact fun x listed same => unlisted ⟨x, listed, of_decide_eq_true same⟩
    obtain ⟨g, found⟩ := Option.isSome_iff_exists.1 some
    obtain ⟨dueG, here⟩ := walkDue_of_found s (number.symm ▸ reached) found
    rcases least g dueG with rfl | later
    · exact found
    · omega
  obtain ⟨before, after, lockers⟩ := List.append_of_mem mem
  have inOrder := ordered
  rw [lockers, List.map_append, List.map_cons, List.pairwise_append] at inOrder
  obtain ⟨-, -, across⟩ := inOrder
  unfold Station.nextUnannounced
  rw [lockers, List.filter_append, List.filter_cons_of_pos (by simpa [number] using reached)]
  refine List.findSome?_eq_some_iff.2 ⟨_, l, _, rfl, hit, fun x front => ?_⟩
  obtain ⟨there, passed⟩ := List.mem_filter.1 front
  have less := across x.number (List.mem_map_of_mem there) l.number List.mem_cons_self
  cases found : s.lockers.holdings.find? _ with
  | none => rfl
  | some g =>
    obtain ⟨dueG, here⟩ := walkDue_of_found s (of_decide_eq_true passed) found
    rcases least g dueG with rfl | later <;> omega

@[simp] theorem offer_claims (kind : Kind) (content : List Byte) (owner : Owner) (role : Role) :
    (s.offer kind content owner role).claims = s.claims := by
  rw [offer_frame]

@[simp] theorem offer_lockers (kind : Kind) (content : List Byte) (owner : Owner) (role : Role) :
    (s.offer kind content owner role).lockers = s.lockers := by
  rw [offer_frame]

/-- R64: the holding's announcing CLAIM is queued, its locker is listed, and the walk moves behind it. -/
theorem announce_eq {h : Holding} {l : Locker} (locker : s.locker? h.locker = some l) :
    s.announce h =
      { s.offer .claim
          (partyBytes h.party ++ [oneByte h.locker] ++ threeBytes h.serial ++ [if l.size = .large then 1 else 0])
          .claimUnit (.announcement h.locker) with
        claims.announcements :=
          s.claims.announcements ++ [{ locker := h.locker, frame := s.link.nextFrame }]
        claims.walk := if h.locker < s.lockers.lockers.length then some (h.locker + 1) else none } := by
  have size : Size.code (s.lockerSize h.locker) = if l.size = .large then 1 else 0 := by
    rw [Station.lockerSize, locker]
    dsimp only
    cases l.size <;> rfl
  have past : (if s.lockers.lockers.length < h.locker + 1 then none else some (h.locker + 1)) =
      if h.locker < s.lockers.lockers.length then some (h.locker + 1) else none := by
    split <;> split <;> first | rfl | omega
  unfold Station.announce
  simp only [offer_claims, offer_lockers, past, claimContent, size]

theorem continueWalk_full (full : s.claims.walk = none ∨ 2 ≤ s.claims.announcements.length) : s.continueWalk = s := by
  refine continueWalk_rests s ?_
  unfold Station.walkOne
  rcases full with none | full
  · rw [none]
  · split
    · rfl
    · rw [if_neg (by omega)]

theorem walkOne_of {position : Nat} (walk : s.claims.walk = some position) (few : s.claims.announcements.length < 2) :
    s.walkOne =
      match s.nextUnannounced position with
      | none => some { s with claims.walk := none }
      | some h => some (s.announce h) := by
  unfold Station.walkOne
  rw [walk]
  exact if_pos few

/-! ### The end of a holding (R21, R66) -/

/-- A holding is deleted. -/
def Station.holdingGone (n : Nat) (s : Station) : Station :=
  { s with lockers.holdings := s.lockers.holdings.filter fun g => decide (g.locker ≠ n) }

theorem endHoldingAt_announced {n : Nat} {h : Holding} (holding : s.holdingAt n = some h)
    (announced : h.unannounced = false) :
    s.endHoldingAt n =
      if s.link.up then (s.holdingGone n).offer .free (partyBytes h.party ++ [oneByte n]) .lockerTable .plain
      else s.holdingGone n := by
  unfold Station.endHoldingAt
  rw [holding]
  dsimp only
  rw [announced]
  rfl

theorem endHoldingAt_unannounced {n : Nat} {h : Holding} (holding : s.holdingAt n = some h)
    (unannounced : h.unannounced = true) : s.endHoldingAt n = (s.holdingGone n).dropAnnouncement n := by
  unfold Station.endHoldingAt
  rw [holding]
  dsimp only
  rw [unannounced]
  rfl

theorem dropAnnouncement_unlisted {n : Nat} (unlisted : ∀ x ∈ s.claims.announcements, x.locker ≠ n) :
    s.dropAnnouncement n = s := by
  unfold Station.dropAnnouncement
  rw [List.find?_eq_none.2 fun x mem => by simpa using unlisted x mem]

theorem dropAnnouncement_listed {n : Nat} {before after : List Announcement} {x : Announcement}
    (listed : s.claims.announcements = before ++ x :: after) (here : x.locker = n) (first : ∀ y ∈ before, y.locker ≠ n) :
    s.dropAnnouncement n =
      ({ s.withdrawFrame x.frame with
        claims.announcements := s.claims.announcements.filter fun y => decide (y.locker ≠ n) } :
        Station).continueWalk := by
  have found : s.claims.announcements.find? (fun a => decide (a.locker = n)) = some x :=
    List.find?_eq_some_iff_append.2
      ⟨decide_eq_true here, before, after, listed, fun y mem => by simpa using first y mem⟩
  unfold Station.dropAnnouncement
  rw [found]
  rfl

/-! ### Settling a locker (R18, R35, R38, R41) -/

theorem locker?_changed {n : Nat} {l : Locker} (locker : s.locker? n = some l) (f : Locker → Locker)
    (keeps : ∀ d, (f d).number = d.number) : (s.changeLocker n f).locker? n = some (f l) := by
  rw [locker?_changeLocker s n f keeps, locker]
  rfl

/-- Settles O14, by the walk's next holding, by the holding's mark, and by the state a locker takes. -/
theorem endingAndSettling : Obligations.EndingAndSettling := by
  refine ⟨fun s => ⟨rfl, continueWalk_full s, fun position walk few => ⟨fun none => ?_, ?_⟩⟩, fun n h s holding => ?_,
    fun n l s locker => ?_⟩
  · have one := walkOne_of s walk few
    rw [nextUnannounced_none s none] at one
    exact (continueWalk_step s one).trans (continueWalk_full _ (.inl rfl))
  · intro h l ordered due least locker
    have one := walkOne_of s walk few
    rw [nextUnannounced_least s ordered due least locker] at one
    exact (continueWalk_step s one).trans (congrArg Station.continueWalk (announce_eq s locker))
  · refine ⟨fun announced up => ?_, fun announced down => ?_, fun unannounced unlisted => ?_, ?_⟩
    · exact (endHoldingAt_announced s holding announced).trans (if_pos up)
    · exact (endHoldingAt_announced s holding announced).trans (if_neg (by simp [down]))
    · exact (endHoldingAt_unannounced s holding unannounced).trans (dropAnnouncement_unlisted _ unlisted)
    · intro unannounced before x after listed here first
      exact (endHoldingAt_unannounced s holding unannounced).trans (dropAnnouncement_listed _ listed here first)
  · refine ⟨⟨?_, ?_, fun state => ?_⟩, fun m other => ⟨?_, ?_, fun state => ?_⟩, fun t settled => ?_⟩
    · exact locker?_changed s locker _ fun _ => rfl
    · exact locker?_changed s locker _ fun _ => rfl
    · exact locker?_changed s locker _ fun _ => rfl
    · exact locker?_changeLocker_other s n m _ (fun _ => rfl) other
    · exact locker?_changeLocker_other s n m _ (fun _ => rfl) other
    · exact locker?_changeLocker_other s n m _ (fun _ => rfl) other
    · rcases settled with rfl | rfl | ⟨state, rfl⟩ <;> rfl

end Sys2Proof.Machine

/-!
PROOFS. The locker choice (O15), and the waits, suggestions and guidance (O16).
-/

namespace Sys2Proof.Machine

open Sys2Proof

/-! ### The locker choice (R30) -/

/-- R30: `l` is worn less than `m`, or as much and numbered no higher. -/
def Locker.preferred (l m : Locker) : Prop := l.wear.toNat < m.wear.toNat ∨ (l.wear = m.wear ∧ l.number ≤ m.number)

/-- R30: the locker tried replaces the best so far. -/
def lessWorn (x b : Locker) : Bool := x.wear.toNat < b.wear.toNat || (x.wear = b.wear && x.number < b.number)

theorem lowestWear_eq (l : List Locker) : lowestWear l = l.foldl (pick lessWorn) none := by
  unfold lowestWear
  congr 1
  funext best x
  cases best <;> rfl

theorem lowestWear_some {l : List Locker} {x : Locker} (found : lowestWear l = some x) :
    x ∈ l ∧ ∀ m ∈ l, x.preferred m := by
  obtain ⟨mem, best, -⟩ := foldl_pick_some (better := lessWorn) (asGood := Locker.preferred) (fun _ => .inr ⟨rfl, le_rfl⟩)
    (fun a b c one two => by
      rcases one with less | ⟨same, low⟩ <;> rcases two with less' | ⟨same', low'⟩
      · exact .inl (less.trans less')
      · exact .inl (same' ▸ less)
      · exact .inl (same ▸ less')
      · exact .inr ⟨same.trans same', low.trans low'⟩)
    (fun a b yes => by
      simp only [lessWorn, Bool.or_eq_true, decide_eq_true_eq, Bool.and_eq_true] at yes
      exact yes.imp id fun ⟨same, low⟩ => ⟨same, low.le⟩)
    (fun a b no => by
      simp only [lessWorn, Bool.or_eq_false_iff, decide_eq_false_iff_not, Bool.and_eq_false_iff, not_lt] at no
      rcases Nat.lt_or_eq_of_le no.1 with less | same
      · exact .inl less
      · have wear : b.wear = a.wear := BitVec.eq_of_toNat_eq same
        exact .inr ⟨wear, no.2.resolve_left fun other => other wear.symm⟩)
    ((lowestWear_eq l).symm.trans found)
  exact ⟨mem.resolve_right nofun, best⟩

theorem lowestWear_none {l : List Locker} (none : lowestWear l = .none) : l = [] :=
  foldl_pick_none ((lowestWear_eq l).symm.trans none)

section

variable (s : Station)

/-- R30: the locker is of the size, FREE, and its door is sensed CLOSED. -/
def Station.offers (s : Station) (size : Size) (l : Locker) : Prop :=
  l ∈ s.lockers.lockers ∧ l.size = size ∧ l.state = .free ∧ s.doorClosed l.number = true

theorem mem_offered {size : Size} {l : Locker} :
    l ∈ s.lockers.lockers.filter (fun l => decide (l.size = size) && s.freeClosed l) ↔ s.offers size l := by
  simp [Station.offers, Station.freeClosed]

theorem chooseSize_some {size : Size} {l : Locker} (found : s.chooseSize size = some l) :
    s.offers size l ∧ ∀ m, s.offers size m → l.preferred m := by
  obtain ⟨mem, best⟩ := lowestWear_some found
  exact ⟨(mem_offered s).1 mem, fun m offered => best m ((mem_offered s).2 offered)⟩

theorem chooseSize_none {size : Size} (none : s.chooseSize size = .none) (m : Locker) : ¬s.offers size m := by
  intro offered
  have mem := (mem_offered s).2 offered
  rw [lowestWear_none none] at mem
  cases mem

/-- Settles O15: a tap's own size first, and LARGE for a STANDARD tap with none of its own. -/
theorem lockerChoice : Obligations.LockerChoice := by
  intro size s offered
  cases size with
  | large =>
    cases found : s.chooseSize .large with
    | some l =>
      obtain ⟨offers, best⟩ := chooseSize_some s found
      simp only [Station.chooseLocker, found]
      exact ⟨.large, offers, .inl rfl, best⟩
    | none =>
      simp only [Station.chooseLocker, found]
      exact ⟨chooseSize_none s found, nofun⟩
  | standard =>
    cases own : s.chooseSize .standard with
    | some l =>
      obtain ⟨offers, best⟩ := chooseSize_some s own
      simp only [Station.chooseLocker, own, Option.orElse_some]
      exact ⟨.standard, offers, .inl rfl, best⟩
    | none =>
      have no := chooseSize_none s own
      cases fallback : s.chooseSize .large with
      | some l =>
        obtain ⟨offers, best⟩ := chooseSize_some s fallback
        simp only [Station.chooseLocker, own, Option.orElse_none, fallback]
        exact ⟨.large, offers, .inr ⟨trivial, rfl, no⟩, best⟩
      | none =>
        simp only [Station.chooseLocker, own, Option.orElse_none, fallback]
        exact ⟨no, fun _ => chooseSize_none s fallback⟩

end

/-! ### The dwell average and the waits (R116, R118, R120) -/

theorem dwellUpdate_eighth (d t : Nat) : (dwellUpdate d t : Int) = (d : Int) + Int.tdiv ((t : Int) - (d : Int)) 8 := by
  unfold dwellUpdate
  split
  next rises =>
    rw [Int.tdiv_eq_ediv_of_nonneg (by omega)]
    omega
  next falls =>
    rw [show (t : Int) - d = -((d : Int) - t) by omega, Int.neg_tdiv, Int.tdiv_eq_ediv_of_nonneg (by omega)]
    omega

theorem dwellUpdate_between (d t : Nat) : min d t ≤ dwellUpdate d t ∧ dwellUpdate d t ≤ max d t := by
  unfold dwellUpdate
  split <;> omega

theorem freeCabins_pos {s : Station} (free : ∃ c ∈ s.cabins.cabins, c.state = .free) : 0 < s.freeCabins := by
  obtain ⟨c, mem, state⟩ := free
  exact List.length_pos_of_mem (List.mem_filter.2 ⟨mem, decide_eq_true state⟩)

theorem freeCabins_zero {s : Station} (none : ∀ c ∈ s.cabins.cabins, c.state ≠ .free) : s.freeCabins = 0 := by
  rw [Station.freeCabins, List.length_eq_zero_iff, List.filter_eq_nil_iff]
  exact fun c mem => by simpa using none c mem

theorem cabinsInService_zero {s : Station} (out : ∀ c ∈ s.cabins.cabins, c.state = .outOfService ∨ c.state = .fault) :
    s.cabinsInService = 0 := by
  rw [Station.cabinsInService, List.length_eq_zero_iff, List.filter_eq_nil_iff]
  exact fun c mem => by rcases out c mem with state | state <;> simp [state]

theorem waitEstimate_free {s : Station} (free : 0 < s.freeCabins) (k : Nat) : s.waitEstimate k = 0 := if_pos free

theorem waitEstimate_closed {s : Station} (none : s.freeCabins = 0) (closed : s.cabinsInService = 0) (k : Nat) :
    s.waitEstimate k = 65535 := by
  simp [Station.waitEstimate, none, closed]

/-- R118: the share of D is rounded up. -/
theorem waitEstimate_share {s : Station} (none : s.freeCabins = 0) (serves : 0 < s.cabinsInService) (k : Nat) :
    (k + 1) * s.cabins.dwell ≤ s.waitEstimate k * s.cabinsInService ∧
      s.waitEstimate k * s.cabinsInService < (k + 1) * s.cabins.dwell + s.cabinsInService := by
  have estimate : s.waitEstimate k = ((k + 1) * s.cabins.dwell + (s.cabinsInService - 1)) / s.cabinsInService := by
    simp [Station.waitEstimate, none, Nat.pos_iff_ne_zero.1 serves]
  have quotient := Nat.div_add_mod ((k + 1) * s.cabins.dwell + (s.cabinsInService - 1)) s.cabinsInService
  have rest := Nat.mod_lt ((k + 1) * s.cabins.dwell + (s.cabinsInService - 1)) serves
  rw [estimate, Nat.mul_comm (_ / _)]
  omega

theorem waitMinutes_up {w : Nat} (short : w ≤ 5940) : w ≤ 60 * waitMinutes w ∧ 60 * waitMinutes w < w + 60 := by
  unfold waitMinutes
  omega

theorem waitMinutes_capped {w : Nat} (long : 5940 < w) : waitMinutes w = 99 := by
  unfold waitMinutes
  omega

/-! ### The best neighbour (R121 to R124) -/

theorem bestOf_eq (better : Neighbour → Neighbour → Bool) (l : List Neighbour) :
    bestOf better l = l.foldl (pick better) none := by
  unfold bestOf
  congr 1
  funext best x
  cases best <;> rfl

theorem zoneDistance_abs (a b : Nat) : (zoneDistance a b : Int) = |(a : Int) - (b : Int)| := by
  unfold zoneDistance
  rcases le_total a b with below | above
  · rw [abs_of_nonpos (by omega)]
    omega
  · rw [abs_of_nonneg (by omega)]
    omega

section

variable (s : Station)

/-- R121, R123: a neighbour heard of late that is in RUN. -/
def Station.freshRun (s : Station) (n : Neighbour) : Prop :=
  n ∈ s.tally.neighbours ∧ n.heard = true ∧ n.aged = false ∧ n.mode = .run

theorem mem_cabinCandidates {n : Neighbour} :
    n ∈ s.tally.neighbours.filter (·.cabinCandidate) ↔ s.freshRun n ∧ n.wait ≠ 65535 ∧ n.queue < 16 := by
  simp only [List.mem_filter, Neighbour.cabinCandidate, Neighbour.stale, Station.freshRun]
  simp
  tauto

/-- R121: `n` costs less than `m`, or as much and has the lower number. -/
def Station.cheaper (s : Station) (n m : Neighbour) : Prop :=
  s.cabinCost n < s.cabinCost m ∨ (s.cabinCost n = s.cabinCost m ∧ n.station ≤ m.station)

theorem bestCabin_some {n : Neighbour} (found : s.bestCabin = some n) :
    n ∈ s.tally.neighbours.filter (·.cabinCandidate) ∧
      ∀ m ∈ s.tally.neighbours.filter (·.cabinCandidate), s.cheaper n m := by
  obtain ⟨mem, best, -⟩ := foldl_pick_some (asGood := s.cheaper) (fun _ => .inr ⟨rfl, le_rfl⟩)
    (fun a b c one two => by
      unfold Station.cheaper at *
      omega)
    (fun a b yes => by
      simp only [Bool.or_eq_true, decide_eq_true_eq, Bool.and_eq_true, beq_iff_eq] at yes
      unfold Station.cheaper
      omega)
    (fun a b no => by
      simp only [Bool.or_eq_false_iff, decide_eq_false_iff_not, Bool.and_eq_false_iff, beq_eq_false_iff_ne] at no
      unfold Station.cheaper
      omega)
    ((bestOf_eq _ _).symm.trans found)
  exact ⟨mem.resolve_right nofun, best⟩

theorem bestCabin_none (none : s.bestCabin = .none) : s.tally.neighbours.filter (·.cabinCandidate) = [] :=
  foldl_pick_none ((bestOf_eq _ _).symm.trans none)

theorem mem_lockerCandidates {size : Size} {n : Neighbour} :
    n ∈ s.tally.neighbours.filter (Neighbour.lockerCandidate size) ↔
      s.freshRun n ∧ n.driveHold = false ∧ 1 ≤ n.freeOf size := by
  simp only [List.mem_filter, Neighbour.lockerCandidate, Neighbour.stale, Station.freshRun]
  simp
  tauto

/-- R124: `n` is nearer than `m`; or as near, with more lockers free; or with as many, and has the lower number. -/
def Station.nearer (s : Station) (size : Size) (n m : Neighbour) : Prop :=
  zoneDistance n.zone s.restart.zone.toNat < zoneDistance m.zone s.restart.zone.toNat ∨
    (zoneDistance n.zone s.restart.zone.toNat = zoneDistance m.zone s.restart.zone.toNat ∧
      (m.freeOf size < n.freeOf size ∨ (m.freeOf size = n.freeOf size ∧ n.station ≤ m.station)))

theorem lockerPass_some {size : Size} {n : Neighbour} (found : s.lockerPass size = some n) :
    n ∈ s.tally.neighbours.filter (Neighbour.lockerCandidate size) ∧
      ∀ m ∈ s.tally.neighbours.filter (Neighbour.lockerCandidate size), s.nearer size n m := by
  obtain ⟨mem, best, -⟩ := foldl_pick_some (asGood := s.nearer size) (fun _ => .inr ⟨rfl, .inr ⟨rfl, le_rfl⟩⟩)
    (fun a b c one two => by
      unfold Station.nearer at *
      omega)
    (fun a b yes => by
      simp only [Bool.or_eq_true, decide_eq_true_eq, Bool.and_eq_true, beq_iff_eq] at yes
      unfold Station.nearer
      omega)
    (fun a b no => by
      simp only [Bool.or_eq_false_iff, decide_eq_false_iff_not, Bool.and_eq_false_iff, beq_eq_false_iff_ne] at no
      unfold Station.nearer
      omega)
    ((bestOf_eq _ _).symm.trans found)
  exact ⟨mem.resolve_right nofun, best⟩

theorem lockerPass_none {size : Size} (none : s.lockerPass size = .none) :
    s.tally.neighbours.filter (Neighbour.lockerCandidate size) = [] :=
  foldl_pick_none ((bestOf_eq _ _).symm.trans none)

/-- R123, R124: what the guidance says in each pass. -/
theorem guidance_none {size : Size} (none : s.guidedBank size = .none) : s.guidance size = .allLockersFull := by
  unfold Station.guidance
  rw [none]

theorem guidance_some {size : Size} {n : Neighbour} (found : s.guidedBank size = some n) :
    s.guidance size = .noLockerHere n.station := by
  unfold Station.guidance
  rw [found]

theorem lockerPass_empty {size : Size} (no : ∀ n, ¬(s.freshRun n ∧ n.driveHold = false ∧ 1 ≤ n.freeOf size)) :
    s.lockerPass size = none := by
  have empty : s.tally.neighbours.filter (Neighbour.lockerCandidate size) = [] :=
    List.eq_nil_iff_forall_not_mem.2 fun n mem => no n ((mem_lockerCandidates s).1 mem)
  unfold Station.lockerPass
  rw [empty]
  rfl

/-- R123: a STANDARD tap's own pass goes first, and the LARGE pass follows where it finds none. -/
theorem guidedBank_eq {size pass : Size} (finds : (s.lockerPass pass).isSome = true ∨ pass = .large)
    (own : pass = size ∨ (size = .standard ∧ pass = .large ∧ s.lockerPass .standard = none)) :
    s.guidedBank size = s.lockerPass pass := by
  unfold Station.guidedBank
  rcases own with rfl | ⟨rfl, rfl, none⟩
  · cases pass with
    | large => rfl
    | standard =>
      obtain ⟨n, found⟩ := Option.isSome_iff_exists.1 (finds.resolve_right nofun)
      simp [found]
  · simp [none]

theorem cabinCost_cast (n : Neighbour) :
    (s.cabinCost n : Int) = n.wait + s.orders.setup.walkPenalty * |(n.zone : Int) - (s.restart.zone.toNat : Int)| := by
  rw [← zoneDistance_abs]
  simp [Station.cabinCost]

theorem suggestion_spec (w : Nat) :
    match s.suggestion w with
    | some x =>
      ∃ n, (s.freshRun n ∧ n.wait ≠ 65535 ∧ n.queue < 16) ∧ x = .cabinsFaster n.station ∧
        s.cabinCost n + s.orders.setup.margin < w ∧
        ∀ m, s.freshRun m ∧ m.wait ≠ 65535 ∧ m.queue < 16 → s.cheaper n m
    | none => ∀ n, s.freshRun n ∧ n.wait ≠ 65535 ∧ n.queue < 16 → w ≤ s.cabinCost n + s.orders.setup.margin := by
  unfold Station.suggestion
  cases found : s.bestCabin with
  | none =>
    intro n candidate
    have mem := (mem_cabinCandidates s).2 candidate
    rw [bestCabin_none s found] at mem
    cases mem
  | some n =>
    obtain ⟨mem, best⟩ := bestCabin_some s found
    by_cases pays : s.cabinCost n + s.orders.setup.margin < w
    · simp only [pays, if_true]
      exact ⟨n, (mem_cabinCandidates s).1 mem, rfl, pays, fun m candidate => best m ((mem_cabinCandidates s).2 candidate)⟩
    · simp only [pays, if_false]
      intro m candidate
      have cost : s.cabinCost n ≤ s.cabinCost m := by
        rcases best m ((mem_cabinCandidates s).2 candidate) with less | ⟨same, -⟩
        · exact less.le
        · exact same.le
      omega

end

/-- Settles O16: the arithmetic of the waits, and the best neighbour by each order. -/
theorem waitsAndGuidance : Obligations.WaitsAndGuidance := by
  refine ⟨⟨fun d t => ⟨dwellUpdate_eighth d t, dwellUpdate_between d t⟩, fun s k => ⟨fun free => ?_, fun out => ?_,
    fun none serves => ?_⟩, fun w => ⟨waitMinutes_up, waitMinutes_capped⟩⟩, fun s => ?_⟩
  · exact waitEstimate_free (freeCabins_pos free) k
  · refine waitEstimate_closed (freeCabins_zero fun c mem free => ?_) (cabinsInService_zero out) k
    rcases out c mem with state | state <;> cases free.symm.trans state
  · exact waitEstimate_share (freeCabins_zero none) serves k
  · intro fresh far cost cabin locker nearest
    have costs (n : Neighbour) : cost n = s.cabinCost n := (cabinCost_cast s n).symm
    have fars (n : Neighbour) : far n = zoneDistance n.zone s.restart.zone.toNat := (zoneDistance_abs _ _).symm
    refine ⟨fun w => ?_, fun size => ⟨fun none noLarge => guidance_none s ?_, fun z pass some => ?_⟩⟩
    · have spec := suggestion_spec s w
      cases found : s.suggestion w with
      | some x =>
        rw [found] at spec
        obtain ⟨n, candidate, text, pays, best⟩ := spec
        refine ⟨n, candidate, text, ?_, fun m other => ?_⟩
        · rw [costs]
          exact_mod_cast pays
        · rw [costs, costs]
          exact_mod_cast best m other
      | none =>
        rw [found] at spec
        intro n candidate
        rw [costs]
        exact_mod_cast spec n candidate
    · cases size with
      | large => exact lockerPass_empty s none
      | standard =>
        rw [guidedBank_eq s (.inr rfl) (.inr ⟨rfl, rfl, lockerPass_empty s none⟩)]
        exact lockerPass_empty s (noLarge rfl)
    · obtain ⟨m, candidate⟩ := some
      have here := (mem_lockerCandidates s).2 candidate
      cases found : s.lockerPass z with
      | none =>
        rw [lockerPass_none s found] at here
        cases here
      | some n =>
        obtain ⟨mem, best⟩ := lockerPass_some s found
        refine ⟨n, ⟨(mem_lockerCandidates s).1 mem, fun k other => ?_⟩, guidance_some s ?_⟩
        · rw [fars, fars]
          exact_mod_cast best k ((mem_lockerCandidates s).2 other)
        · rw [guidedBank_eq s (.inl (by rw [found]; rfl))
            (pass.imp id fun ⟨small, large, no⟩ => ⟨small, large, lockerPass_empty s no⟩), found]

end Sys2Proof.Machine

/-!
PROOFS. The reader inputs: the assembly of records (O17), and the completed record (O18).
-/

namespace Sys2Proof.Machine

open Sys2Proof

variable (s : Station)

/-! ### Record assembly (R1) -/

theorem whenReceiving_running (f : Station → Station) (running : s.restart.phase = .running) :
    whenReceiving f s = f s := if_pos running

/-- A reader row of a station whose receivers run. -/
theorem runs_receiving {c : Instr} {st : State} {f : Station → Station} {P : Station → Station → Prop}
    (meaning : exec c st = perform c (whenReceiving f) st) (running : st.station.restart.phase = .running)
    (p : P (st.station.take c) (f (st.station.take c))) : Runs c st P := by
  refine runs_perform meaning ?_
  rw [whenReceiving_running _ f (by simpa using running)]
  exact p

/-- The record and the gap timer of an input. -/
def Station.setRecord (r : Reader) (record : Option (List Byte)) (gapEnd : Option Moment) (s : Station) : Station :=
  s.changeInput r fun j => { j with record, gapEnd }

theorem refuseTap_setRecord (r : Reader) (record : Option (List Byte)) (gapEnd : Option Moment) :
    (s.setRecord r record gapEnd).refuseTap =
      { s.refuseTap with
        taps.inputs := updateWhere (fun j => decide (j.reader = r)) (fun j => { j with record, gapEnd }) s.taps.inputs } := by
  unfold Station.refuseTap
  cases mode : s.restart.mode <;> simp [Station.setRecord, Station.changeInput, mode]

variable {s} {r : Reader} {i : ReaderInput}

/-- A break opens a record. -/
theorem readerBreak_eq (input : s.input? r = some i) :
    s.readerBreak r =
      { (if i.record.isSome then s.refuseTap else s) with
        taps.inputs :=
          updateWhere (fun j => decide (j.reader = r)) (fun j => { j with record := some [], gapEnd := none })
            s.taps.inputs } := by
  unfold Station.readerBreak
  rw [input, Option.bind_some]
  cases i.record with
  | none => rfl
  | some bytes => exact refuseTap_setRecord s r (some []) none

theorem readerCharacter_closed (input : s.input? r = some i) (none : i.record = none) (b : Byte) (stop : Bool) :
    s.readerCharacter r b stop = s := by
  unfold Station.readerCharacter
  rw [input, Option.bind_some, none]

theorem readerCharacter_enters {bytes : List Byte} (input : s.input? r = some i) (record : i.record = some bytes)
    (short : bytes.length < 7) (b : Byte) :
    s.readerCharacter r b true = s.setRecord r (some (bytes ++ [b])) (some (s.now + 20)) := by
  unfold Station.readerCharacter
  rw [input, Option.bind_some, record]
  exact (if_neg (by simp)).trans (if_pos short)

theorem readerCharacter_framing {bytes : List Byte} (input : s.input? r = some i) (record : i.record = some bytes)
    (b : Byte) : s.readerCharacter r b false = (s.setRecord r none none).refuseTap := by
  unfold Station.readerCharacter
  rw [input, Option.bind_some, record]
  rfl

/-- The eighth character completes the record. -/
theorem readerCharacter_completes {bytes : List Byte} (input : s.input? r = some i) (record : i.record = some bytes)
    (full : bytes.length = 7) (b : Byte) :
    s.readerCharacter r b true = (s.setRecord r none none).recordComplete r (bytes ++ [b]) := by
  unfold Station.readerCharacter
  rw [input, Option.bind_some, record]
  exact (if_neg (by simp)).trans (if_neg (by omega))

theorem characterTimeout_eq {g : Moment} (input : s.input? r = some i) (gap : i.gapEnd = some g) :
    s.characterTimeout r = ((s.reach (g + 1)).setRecord r none none).refuseTap := by
  unfold Station.characterTimeout
  rw [input, Option.bind_some, gap]
  rfl

/-- Settles O17, row by row. -/
theorem recordAssembly : Obligations.RecordAssembly := by
  intro r i s running input put counted
  refine ⟨?_, fun b stop none => ?_, fun b bytes record short => ?_, fun b bytes record => ?_, fun g gap => ?_⟩
  · exact runs_receiving rfl running (readerBreak_eq (s := s.station.take _) input)
  · exact runs_receiving rfl running (readerCharacter_closed (s := s.station.take _) input none b stop)
  · exact runs_receiving rfl running (readerCharacter_enters (s := s.station.take _) input record short b)
  · exact runs_receiving rfl running
      ((readerCharacter_framing (s := s.station.take _) input record b).trans (refuseTap_setRecord _ r none none))
  · refine runs_receiving rfl running ((characterTimeout_eq (s := s.station.take _) input gap).trans ?_)
    refine (refuseTap_setRecord _ r none none).trans ?_
    unfold Station.refuseTap
    cases mode : s.station.restart.mode <;> simp [counted, mode, put, Station.reach]

/-! ### The completed record (R2 to R14) -/

section

variable {s : Station} {r : Reader} {i : ReaderInput} {b0 b1 b2 b3 b4 b5 day check : Byte}

theorem recordCheck_eight :
    recordCheck [b0, b1, b2, b3, b4, b5, day, check] = 255 - (b0 + b1 + b2 + b3 + b4 + b5 + day) := by
  simp [recordCheck]

theorem isRepeat_iff {guard : Option Sighting} {serial : BitVec 24} {time : Moment} :
    isRepeat guard serial time = true ↔ ∃ g, guard = some g ∧ g.serial = serial ∧ time ≤ g.time + 1000 := by
  cases guard <;> simp [isRepeat]

theorem bandNotValid_iff {code : Byte} :
    bandNotValid [b0, b1, b2, b3, b4, b5, day, check] code = true ↔
      ¬((b0 ++ b1 ++ b2 : BitVec 24) ≠ 0 ∧ (b0 ++ b1 ++ b2 : BitVec 24) ≠ 16777215 ∧ day = code) := by
  have serial : recordSerial [b0, b1, b2, b3, b4, b5, day, check] = b0 ++ b1 ++ b2 := rfl
  have same : recordDay [b0, b1, b2, b3, b4, b5, day, check] = day := rfl
  have last : BitVec.allOnes 24 = 16777215 := rfl
  simp only [bandNotValid, serial, same, last, Bool.or_eq_true, decide_eq_true_eq]
  tauto

/-- R4: the input's record is closed, and its guard entry sights the serial. -/
theorem sight_setRecord (bytes : List Byte) :
    (s.setRecord r none none).sight r bytes =
      s.changeInput r fun j =>
        { j with record := none, gapEnd := none, guard := some { serial := recordSerial bytes, time := s.now } } :=
  changeInput_changeInput s r _ _ fun _ => rfl

theorem guard_setRecord (input : s.input? r = some i) :
    ((s.setRecord r none none).input? r).bind (·.guard) = i.guard := by
  have found := input?_changeInput s r (fun j => { j with record := none, gapEnd := none }) fun _ => rfl
  rw [Station.setRecord, found, input]
  rfl

end

/-- Settles O18: the outcomes of a completed record, in the order of the rules. -/
theorem completedRecord : Obligations.CompletedRecord := by
  intro r i b0 b1 b2 b3 b4 b5 day check s running input record serial family good again valid closed sighted refused tap
    mode
  refine runs_receiving rfl running ?_
  generalize taken : s.station.take (.readerCharacter r check true) = a
  have input' : a.input? r = some i := taken ▸ input
  have now : a.now = s.station.now := taken ▸ rfl
  have modes : (closed a).restart.mode = mode := taken ▸ rfl
  have completes := readerCharacter_completes input' record rfl check
  have checks : recordCheck [b0, b1, b2, b3, b4, b5, day, check] ≠ recordByte [b0, b1, b2, b3, b4, b5, day, check] 7 ↔
      ¬good := by
    rw [recordCheck_eight]
    exact not_congr eq_comm
  have repeats : isRepeat (((closed a).input? r).bind (·.guard))
      (recordSerial [b0, b1, b2, b3, b4, b5, day, check]) (closed a).now = true ↔ again := by
    rw [show (closed a).input? r = (a.setRecord r none none).input? r from rfl, guard_setRecord input', isRepeat_iff,
      show (closed a).now = s.station.now from now]
    rfl
  have invalid : bandNotValid [b0, b1, b2, b3, b4, b5, day, check] a.orders.setup.dayCode = true ↔ ¬valid := by
    rw [show a.orders = s.station.orders from taken ▸ rfl]
    exact bandNotValid_iff
  have goes (running' : mode ≠ .strapFault) (whole : good) :
      a.readerCharacter r check true =
        if isRepeat (((closed a).input? r).bind (·.guard)) (recordSerial [b0, b1, b2, b3, b4, b5, day, check])
          (closed a).now then sighted a
        else (sighted a).present r [b0, b1, b2, b3, b4, b5, day, check] := by
    have seen : (closed a).sight r [b0, b1, b2, b3, b4, b5, day, check] = sighted a := sight_setRecord _
    rw [completes]
    refine (if_neg (modes ▸ running')).trans ((if_neg fun bad => checks.1 bad whole).trans ?_)
    rw [← seen]
    rfl
  have fresh (running' : mode ≠ .strapFault) (whole : good) (first : ¬again) :
      a.readerCharacter r check true = (sighted a).present r [b0, b1, b2, b3, b4, b5, day, check] :=
    (goes running' whole).trans (if_neg fun seen => first (repeats.1 seen))
  refine ⟨fun fault => ?_, fun running' bad => ?_, fun running' whole seen => ?_, fun unserved whole first => ?_,
    fun run whole first bad => ?_, fun run whole first fine => ?_⟩
  · exact completes.trans (if_pos (modes.trans fault))
  · refine completes.trans ((if_neg (modes ▸ running')).trans ((if_pos (checks.2 bad)).trans ?_))
    exact if_neg (modes ▸ running')
  · exact (goes running' whole).trans (if_pos (repeats.2 seen))
  · have running' : mode ≠ .strapFault := by rcases unserved with m | m <;> simp [m]
    have refuses : ((sighted a).post .notReady).refuseTap = refused ((sighted a).post .notReady) :=
      if_neg (modes ▸ running')
    rw [fresh running' whole first, ← refuses]
    unfold Station.present
    rw [show (sighted a).restart.mode = mode from modes]
    rcases unserved with m | m <;> rw [m]
  · have running' : mode ≠ .strapFault := by simp [run]
    have refuses : ((sighted a).post .bandNotValid).refuseTap = refused ((sighted a).post .bandNotValid) :=
      if_neg (modes ▸ running')
    rw [fresh running' whole first, ← refuses]
    unfold Station.present
    rw [show (sighted a).restart.mode = mode from modes, run]
    exact if_pos (invalid.2 bad)
  · have running' : mode ≠ .strapFault := by simp [run]
    have made : recordTap [b0, b1, b2, b3, b4, b5, day, check] a.now = tap := by
      rw [now]
      rfl
    rw [fresh running' whole first]
    unfold Station.present
    rw [show (sighted a).restart.mode = mode from modes, run]
    refine (if_neg fun bad => invalid.1 bad fine).trans ?_
    unfold Station.handTap
    rw [show (sighted a).now = a.now from rfl, made]
    cases r <;> rfl

end Sys2Proof.Machine

/-!
PROOFS. Taps at the bank reader: a tap on a LOCKED or an OPEN locker (O20).
-/

namespace Sys2Proof.Machine

open Sys2Proof

variable (s : Station)

/-! ### What offers with room leave alone -/

/-- No report has been made, the link's state and its losses are as they were, and so are restart control and the
order unit. -/
structure Calm (s t : Station) : Prop where
  reports : t.link.reports = s.link.reports
  up      : t.link.up = s.link.up
  losses  : t.link.losses = s.link.losses
  restart : t.restart = s.restart
  orders  : t.orders = s.orders

theorem Calm.refl : Calm s s := ⟨rfl, rfl, rfl, rfl, rfl⟩

theorem Calm.trans {s t u : Station} (first : Calm s t) (next : Calm t u) : Calm s u :=
  ⟨next.reports.trans first.reports, next.up.trans first.up, next.losses.trans first.losses,
    next.restart.trans first.restart, next.orders.trans first.orders⟩

theorem offer_calm (kind : Kind) (content : List Byte) (owner : Owner) (role : Role)
    (up : s.link.up = true ∨ kind = .recall ∨ kind = .report) (room : s.link.queue.length < 12) :
    Calm s (s.offer kind content owner role) := by
  have losses : (s.offer kind content owner role).link.losses = s.link.losses := by
    unfold Station.offer
    dsimp only
    split
    · rfl
    · split
      · rfl
      · rfl
  refine ⟨offer_reports s _ _ _ _ up room, offer_up s _ _ _ _, losses, ?_, ?_⟩ <;> rw [offer_frame]

/-- A step of the walk offers at most one frame, which is listed. -/
theorem walkOne_calm {t : Station} (step : s.walkOne = some t) (up : s.link.up = true)
    (room : s.link.queue.length + (2 - s.claims.announcements.length) ≤ 12) :
    Calm s t ∧ t.link.queue.length + (2 - t.claims.announcements.length) ≤
      s.link.queue.length + (2 - s.claims.announcements.length) := by
  unfold Station.walkOne at step
  split at step
  · cases step
  · split at step
    next few =>
      split at step <;> cases step
      · exact ⟨⟨rfl, rfl, rfl, rfl, rfl⟩, le_rfl⟩
      next h _ =>
        have fits : s.link.queue.length < 12 := by omega
        have entered := offer_length s .claim (claimContent h.party h.locker h.serial (s.lockerSize h.locker)) .claimUnit
          (.announcement h.locker) up fits
        obtain ⟨reports, up', losses, restart, orders⟩ := offer_calm s .claim
          (claimContent h.party h.locker h.serial (s.lockerSize h.locker)) .claimUnit (.announcement h.locker) (.inl up) fits
        refine ⟨⟨reports, up', losses, restart, orders⟩, ?_⟩
        rw [announce_claims s h]
        refine Nat.le_trans (Nat.add_le_add_right entered _) ?_
        omega
    · cases step

/-- R64, R135: a walk on a link that is UP lists at most 2 holdings, whose frames find their room. -/
theorem continueWalk_calm (up : s.link.up = true)
    (room : s.link.queue.length + (2 - s.claims.announcements.length) ≤ 12) :
    Calm s s.continueWalk ∧
      s.continueWalk.link.queue.length ≤ s.link.queue.length + (2 - s.claims.announcements.length) := by
  have run (fuel : Nat) (t : Station) (up : t.link.up = true)
      (room : t.link.queue.length + (2 - t.claims.announcements.length) ≤ 12) :
      Calm t (walkOn fuel t) ∧
        (walkOn fuel t).link.queue.length ≤ t.link.queue.length + (2 - t.claims.announcements.length) := by
    induction fuel generalizing t with
    | zero => exact ⟨.refl t, Nat.le_add_right _ _⟩
    | succ k ih =>
      unfold walkOn
      split
      · exact ⟨.refl t, Nat.le_add_right _ _⟩
      next u step =>
        obtain ⟨calm, shorter⟩ := walkOne_calm t step up room
        obtain ⟨rest, length⟩ := ih u (calm.up.trans up) (shorter.trans room)
        exact ⟨calm.trans rest, length.trans shorter⟩
  exact run 64 s up room

/-- One entry acted on offers at most one RECOUNT, which is counted. -/
theorem produceOne_calm {t : Station} (step : s.produceOne = some t)
    (room : s.link.queue.length + (2 - s.directory.recounts) ≤ 12) :
    Calm s t ∧ t.link.queue.length + (2 - t.directory.recounts) ≤
      s.link.queue.length + (2 - s.directory.recounts) := by
  unfold Station.produceOne at step
  split at step
  next few =>
    obtain ⟨under, up⟩ := Bool.and_eq_true_iff.1 few
    have under := of_decide_eq_true under
    split at step
    · cases step
    next e _ =>
      dsimp only at step
      split at step <;> cases step
      · exact ⟨⟨rfl, rfl, rfl, rfl, rfl⟩, le_rfl⟩
      · have fits : (s.clearRecount e.party).link.queue.length < 12 := by
          rw [Station.clearRecount_link]
          omega
        have entered := offer_length (s.clearRecount e.party) .recount (recountContent e.holder e.party e.locker e.serial)
          .directory .plain up fits
        obtain ⟨reports, up', losses, restart, orders⟩ := offer_calm (s.clearRecount e.party) .recount
          (recountContent e.holder e.party e.locker e.serial) .directory .plain (.inl up) fits
        refine ⟨⟨reports, up', losses, restart, orders⟩, ?_⟩
        have counted : ((s.clearRecount e.party).offer .recount (recountContent e.holder e.party e.locker e.serial)
            .directory .plain).directory.recounts = s.directory.recounts := by
          rw [offer_frame]
          rfl
        have same : (s.clearRecount e.party).link.queue.length = s.link.queue.length := by
          rw [Station.clearRecount_link]
        dsimp only at entered ⊢
        omega
  · cases step

/-- R82, R135: production queues RECOUNTs up to a count of 2, which find their room. -/
theorem produce_calm (room : s.link.queue.length + (2 - s.directory.recounts) ≤ 12) :
    Calm s s.produce ∧ s.produce.link.queue.length ≤ s.link.queue.length + (2 - s.directory.recounts) := by
  have run (fuel : Nat) (t : Station) (room : t.link.queue.length + (2 - t.directory.recounts) ≤ 12) :
      Calm t (produceRecounts fuel t) ∧
        (produceRecounts fuel t).link.queue.length ≤ t.link.queue.length + (2 - t.directory.recounts) := by
    induction fuel generalizing t with
    | zero => exact ⟨.refl t, Nat.le_add_right _ _⟩
    | succ k ih =>
      unfold produceRecounts
      split
      · exact ⟨.refl t, Nat.le_add_right _ _⟩
      next u step =>
        obtain ⟨calm, shorter⟩ := produceOne_calm t step room
        obtain ⟨rest, length⟩ := ih u (shorter.trans room)
        exact ⟨calm.trans rest, length.trans shorter⟩
  exact run 130 s room

theorem withdrawFrame_length (id : Nat) : (s.withdrawFrame id).link.queue.length ≤ s.link.queue.length := by
  simp only [Station.withdrawFrame, List.length_map]
  exact List.length_filter_le _ _

/-- R66: an announcement dropped lets the walk go on, which lists at most 2 holdings. -/
theorem dropAnnouncement_calm (walks : s.link.up = true ∨ s.claims.walk = none) (room : s.Room 2) (n : Nat) :
    (s.dropAnnouncement n).link.reports = s.link.reports ∧
      (s.dropAnnouncement n).link.queue.length ≤ s.link.queue.length + 2 := by
  have fits : s.link.queue.length + 2 ≤ 12 := room
  unfold Station.dropAnnouncement
  split
  · exact ⟨rfl, Nat.le_add_right _ _⟩
  next x _ =>
    have shorter := Nat.add_le_add_right (withdrawFrame_length s x.frame) 2
    rcases walks with up | still
    · obtain ⟨calm, length⟩ := continueWalk_calm
        ({ s.withdrawFrame x.frame with
          claims.announcements := s.claims.announcements.filter fun b => decide (b.locker ≠ n) } : Station) up
        ((Nat.add_le_add_left (Nat.sub_le _ _) _).trans (shorter.trans fits))
      exact ⟨calm.reports, length.trans ((Nat.add_le_add_left (Nat.sub_le _ _) _).trans shorter)⟩
    · have rests : ({ s.withdrawFrame x.frame with
          claims.announcements := s.claims.announcements.filter fun b => decide (b.locker ≠ n) } : Station).continueWalk =
            { s.withdrawFrame x.frame with
              claims.announcements := s.claims.announcements.filter fun b => decide (b.locker ≠ n) } :=
        continueWalk_full _ (.inl still)
      dsimp only
      refine (congrArg (fun t : Station => t.link.reports = s.link.reports ∧
        t.link.queue.length ≤ s.link.queue.length + 2) rests).mpr ?_
      exact ⟨rfl, (Nat.le_add_right _ 2).trans shorter⟩

/-- R21, R66: a holding that ends on a link that is UP, or while no walk runs, makes no report where two frames have
room, and takes at most two places of the queue. -/
theorem endHoldingAt_calm (walks : s.link.up = true ∨ s.claims.walk = none) (room : s.Room 2) (n : Nat) :
    (s.endHoldingAt n).link.reports = s.link.reports ∧
      (s.endHoldingAt n).link.queue.length ≤ s.link.queue.length + 2 := by
  have fits : s.link.queue.length + 2 ≤ 12 := room
  have few : s.link.queue.length < 12 := by omega
  unfold Station.endHoldingAt
  split
  · exact ⟨rfl, Nat.le_add_right _ _⟩
  · dsimp only
    split
    · exact dropAnnouncement_calm (s.holdingGone n) walks room n
    · split
      next up =>
        exact ⟨offer_reports _ _ _ _ _ (.inl up) few, (offer_length (s.holdingGone n) _ _ _ _ up few).trans (Nat.le_succ _)⟩
      · exact ⟨rfl, Nat.le_add_right _ _⟩

/-! ### A tap by the party of a holding (O20) -/

theorem tapHeld_locked {n : Nat} (locked : s.lockerState n = some .locked) : s.tapHeld n = s.retrieve n := by
  simp only [Station.tapHeld, locked]

theorem tapHeld_opened {n : Nat} (opened : s.lockerState n = some .opened) : s.tapHeld n = s.release n := by
  simp only [Station.tapHeld, opened]

/-- A tap on an OPEN locker, after which no report waits. -/
theorem runs_release {tap : Tap} {h : Holding} {st : State} {u : Station} (serving : st.station.serving = true)
    (held : st.station.holdingOf tap.party = some h) (opened : st.station.lockerState h.locker = some .opened)
    (ended : ((st.station.take (.lockerTap tap)).reach tap.time).endHoldingAt h.locker = u) (settled : u.Settled) :
    Runs (.lockerTap tap) st fun _ t => t = (u.freeLocker h.locker).post (.lockerReleased h.locker) := by
  refine runs_lockerTap serving ?_
  rw [lockerTap_of_holding _ (by simpa using held), tapHeld_opened _ (by simpa using opened), Station.release, ended]
  exact finish_settled _ settled

/-- Settles O20, by the locker's state and the holding's mark. -/
theorem tapTakesLocker : Obligations.TapTakesLocker := by
  intro tap h s serving settled held here n
  have here' : ((s.station.take (.lockerTap tap)).reach tap.time).holdingAt n = some h := here
  refine ⟨fun locked => ?_, fun opened unannounced => ⟨fun unlisted => ?_, fun up room => ?_⟩,
    fun opened announced => ⟨fun up room => ?_, fun down => ?_⟩⟩
  · refine runs_lockerTap_of_link serving settled ?_ ?_
    · rw [lockerTap_of_holding _ (by simpa using held), tapHeld_locked _ (by simpa using locked)]
      rfl
    · simp
  · exact runs_release serving held opened
      ((endHoldingAt_unannounced _ here' unannounced).trans (dropAnnouncement_unlisted _ unlisted)) settled
  · refine runs_release serving held opened rfl ((endHoldingAt_calm _ ?_ ?_ n).1.trans settled)
    · exact .inl up
    · exact room
  · refine runs_release serving held opened ((endHoldingAt_announced _ here' announced).trans (if_pos up)) ?_
    refine (offer_reports _ _ _ _ _ (.inl ?_) ?_).trans settled
    · exact up
    · exact room
  · exact runs_release serving held opened
      ((endHoldingAt_announced _ here' announced).trans (if_neg (by simpa using down))) settled

end Sys2Proof.Machine

/-!
PROOFS. Taps by a party with no place here, at the bank reader (O22), and by a band with none, at a cabin reader (O25).
-/

namespace Sys2Proof.Machine

open Sys2Proof

variable (s : Station)

/-! ### The lookup of R29 and R79 -/

theorem lookup_miss {tap : Tap} (unknown : s.entryOf tap.party = none) : s.lookup tap = .miss := by
  unfold Station.lookup
  rw [unknown]

theorem lookup_redirect {tap : Tap} {e : DirectoryEntry} (known : s.entryOf tap.party = some e)
    (first : ¬∃ r, s.redirectOf tap.serial = some r ∧ r.moment + 3000 ≤ tap.time ∧ tap.time ≤ r.moment + 30000) :
    s.lookup tap = .redirect e := by
  unfold Station.lookup
  rw [known]
  dsimp only
  cases record : s.redirectOf tap.serial with
  | none => rfl
  | some r =>
    have outside : insistSpan r.moment tap.time = false := by
      rw [insistSpan, Bool.and_eq_false_iff, decide_eq_false_iff_not, decide_eq_false_iff_not, ← not_and_or]
      exact fun span => first ⟨r, record, span⟩
    simp [outside]

theorem lookup_insist {tap : Tap} {e : DirectoryEntry} (known : s.entryOf tap.party = some e)
    (again : ∃ r, s.redirectOf tap.serial = some r ∧ r.moment + 3000 ≤ tap.time ∧ tap.time ≤ r.moment + 30000) :
    s.lookup tap = .insist := by
  obtain ⟨r, record, after, within⟩ := again
  unfold Station.lookup
  rw [known, record]
  exact if_pos (by simp [insistSpan, after, within])

section

variable {tap : Tap} (unheld : s.holdingOf tap.party = none) (unclaimed : s.claimOf tap.party = none)

include unheld unclaimed

theorem lockerTap_miss (unknown : s.lookup tap = .miss) : s.lockerTap tap = s.tapNew tap false := by
  simp only [Station.lockerTap, unheld, unclaimed, unknown]

theorem lockerTap_redirect {e : DirectoryEntry} (redirect : s.lookup tap = .redirect e) :
    s.lockerTap tap = s.redirectTap tap e := by
  simp only [Station.lockerTap, unheld, unclaimed, redirect]

theorem lockerTap_insist (insist : s.lookup tap = .insist) : s.lockerTap tap = s.insistTap tap := by
  simp only [Station.lockerTap, unheld, unclaimed, insist]

end

/-! ### A new claim (R31, R48, R62) -/

section

variable {tap : Tap} {insist : Bool}

theorem tapNew_full (full : 4 ≤ s.claims.claims.length) : s.tapNew tap insist = s.post .pleaseWait := if_pos full

theorem tapNew_guided (room : s.claims.claims.length < 4) (none : s.chooseLocker tap.size = none) :
    s.tapNew tap insist = s.post (s.guidance tap.size) := by
  unfold Station.tapNew
  rw [if_neg (Nat.not_le.2 room), none]

theorem tapNew_claims {l : Locker} (room : s.claims.claims.length < 4) (some : s.chooseLocker tap.size = some l) :
    s.tapNew tap insist = s.createClaim tap l.number insist := by
  unfold Station.tapNew
  rw [if_neg (Nat.not_le.2 room), some]

/-- R31: the claim stands in the table, its locker is CLAIMING, and the panel shows it. -/
def Station.claimShown (c : Claim) (s : Station) : Station :=
  ((({ s with claims.claims := s.claims.claims ++ [c] } : Station).changeLocker c.locker fun l =>
    { l with state := .claiming }).post (.locker c.locker)).placeCursor c.locker

@[simp] theorem claimShown_link (c : Claim) : (s.claimShown c).link = s.link := rfl

/-- R48: the claim that a tap makes at this moment. -/
def Station.madeClaim (tap : Tap) (n : Nat) (insist : Bool) (frame : Option Nat) (s : Station) : Claim :=
  { party := tap.party, serial := tap.serial, locker := n, state := .queued, queueTime := s.now, insist, joined := 0,
    frame }

theorem createClaim_up (up : s.link.up = true) (n : Nat) :
    s.createClaim tap n insist =
      (s.claimShown (s.madeClaim tap n insist (some s.link.nextFrame))).offer .claim
        (partyBytes tap.party ++ [oneByte n] ++ threeBytes tap.serial ++ [if tap.size = .large then 1 else 0])
        .claimUnit .claim := by
  have code : Size.code tap.size = if tap.size = .large then 1 else 0 := by cases tap.size <;> rfl
  unfold Station.createClaim
  rw [up, ← code]
  rfl

theorem createClaim_down (down : s.link.up = false) (n : Nat) :
    s.createClaim tap n insist =
      (s.claimShown (s.madeClaim tap n insist none)).confirmClaim (s.madeClaim tap n insist none) true := by
  unfold Station.createClaim
  rw [down]
  rfl

end

/-! ### The tap of a party with no place here (O22) -/

/-- R79: what an insist tap leaves of the directory. -/
def Station.insisted (tap : Tap) (s : Station) : Station := (s.markDoubtful tap.party).removeRedirect tap.serial

/-- Settles O22, by the directory's lookup, and then by the claims table, the locker choice and the link. -/
theorem unheldTap : Obligations.UnheldTap := by
  intro tap s serving settled unheld unclaimed again noted made shown
  refine ⟨fun e known first => ?_, fun insist which => ?_⟩
  · refine runs_lockerTap_of_link serving settled ?_ (by simp)
    exact lockerTap_redirect ((s.station.take _).reach tap.time) unheld unclaimed (lookup_redirect _ known first)
  · have goes : ((s.station.take (.lockerTap tap)).reach tap.time).lockerTap tap =
        (noted insist (s.station.take (.lockerTap tap))).tapNew tap insist := by
      rcases which with ⟨rfl, unknown⟩ | ⟨rfl, known, span⟩
      · exact lockerTap_miss _ unheld unclaimed (lookup_miss _ unknown)
      · obtain ⟨e, found⟩ := Option.isSome_iff_exists.1 known
        exact lockerTap_insist _ unheld unclaimed (lookup_insist _ found span)
    have link (a : Station) : (noted insist a).link = a.link := by cases insist <;> rfl
    have claims (a : Station) : (noted insist a).claims = a.claims := by cases insist <;> rfl
    have chosen : (noted insist (s.station.take (.lockerTap tap))).chooseLocker tap.size =
        (noted insist s.station).chooseLocker tap.size := by cases insist <;> rfl
    refine ⟨fun full => ?_, fun room none => ?_, fun l room some => ⟨fun up fits => ?_, fun down => ?_⟩⟩
    · refine runs_lockerTap_of_link serving settled (goes.trans (tapNew_full _ ?_)) ?_
      · rw [claims]
        exact full
      · simp [link]
    · refine runs_lockerTap_of_link serving settled (goes.trans (tapNew_guided _ ?_ (chosen.trans none))) ?_
      · rw [claims]
        exact room
      · simp [link]
    · refine runs_lockerTap serving ?_
      rw [goes, tapNew_claims _ (by rw [claims]; exact room) (chosen.trans some),
        createClaim_up _ (by rw [link]; exact up), finish_settled, link]
      · rfl
      · refine (offer_reports _ _ _ _ _ (.inl ?_) ?_).trans ?_
        · rw [claimShown_link, link]
          exact up
        · rw [claimShown_link, link]
          exact fits
        · rw [claimShown_link, link]
          exact settled
    · refine runs_lockerTap serving ?_
      rw [goes, tapNew_claims _ (by rw [claims]; exact room) (chosen.trans some),
        createClaim_down _ (by rw [link]; exact down), finish_settled]
      · rfl
      · rw [confirmClaim_link, claimShown_link, link]
        exact settled

/-! ### A new arrival (O25) -/

section

variable {n : Nat} {tap : Tap}

/-- R101: a band that no record names is a new arrival. -/
theorem cabinTap_arrival
    (noCabin : ∀ c ∈ s.cabins.cabins, c.reservedFor ≠ some tap.serial ∧ c.occupant ≠ some tap.serial)
    (noEntry : ∀ e ∈ s.cabins.queue, e.serial ≠ tap.serial) : s.cabinTap n tap = s.newArrival tap := by
  have unreserved : s.reservedHere n tap.serial = none :=
    reservedHere_none s fun c here _ => (noCabin c (List.mem_of_find?_eq_some here)).1
  have away : s.occupiedBy tap.serial = none :=
    List.find?_eq_none.2 fun c mem => by simp [(noCabin c mem).2]
  simp only [Station.cabinTap, unreserved, queueEntry_none s noEntry, away]

theorem newArrival_free {c : Nat} (free : s.lowestFree = some c) : s.newArrival tap = s.post (.cabin c) := by
  unfold Station.newArrival
  rw [free]

theorem newArrival_closed (noFree : s.lowestFree = none) (closed : s.cabinsInService = 0) :
    s.newArrival tap = s.post .cabinsClosed := by
  unfold Station.newArrival
  rw [noFree]
  exact if_pos closed

theorem newArrival_full (noFree : s.lowestFree = none) (serves : 0 < s.cabinsInService)
    (full : 16 ≤ s.cabins.queue.length) :
    s.newArrival tap = s.postMessage { first := .cabinQueueFull, second := s.suggestion (s.waitEstimate 16) } := by
  unfold Station.newArrival
  rw [noFree]
  exact (if_neg (Nat.pos_iff_ne_zero.1 serves)).trans (if_pos full)

theorem newArrival_joins (noFree : s.lowestFree = none) (serves : 0 < s.cabinsInService)
    (room : s.cabins.queue.length < 16) :
    s.newArrival tap =
      ({ s with
        cabins.queue :=
          s.cabins.queue ++
            [{ serial := tap.serial, party := tap.party, joined := s.cabins.clock, state := .waiting,
               graceEnd := none, seconds := 0 }] } : Station).postMessage
        { first := .queueAbout (s.cabins.queue.length + 1) (waitMinutes (s.waitEstimate s.cabins.queue.length))
          second := s.suggestion (s.waitEstimate s.cabins.queue.length) } := by
  unfold Station.newArrival
  rw [noFree]
  exact (if_neg (Nat.pos_iff_ne_zero.1 serves)).trans (if_neg (Nat.not_le.2 room))

end

/-- Settles O25: by the FREE cabins, those in service, and the queue's length. -/
theorem newArrival : Obligations.NewArrival := by
  intro n tap s serving noCabin noEntry q none'
  have arrives (a : Station) (cabins : a.cabins = s.station.cabins) : a.cabinTap n tap = a.newArrival tap :=
    cabinTap_arrival a (cabins ▸ noCabin) (cabins ▸ noEntry)
  have arrival := arrives ((s.station.take (.cabinTap n tap)).reach tap.time) rfl
  refine ⟨fun c ordered mem free least => ?_, fun none closed => ?_, fun none serves full => ?_, fun none serves room => ?_⟩
  · exact runs_cabinTap serving (arrival.trans
      (newArrival_free ((s.station.take _).reach tap.time) (lowestFree_of_least s.station ordered mem free least)))
  · exact runs_cabinTap serving (arrival.trans
      (newArrival_closed ((s.station.take _).reach tap.time) (lowestFree_none s.station none) closed))
  · exact runs_cabinTap serving (arrival.trans
      (newArrival_full ((s.station.take _).reach tap.time) (lowestFree_none s.station none) serves full))
  · exact runs_cabinTap serving (arrival.trans
      (newArrival_joins ((s.station.take _).reach tap.time) (lowestFree_none s.station none) serves room))

end Sys2Proof.Machine

/-!
PROOFS. The end of a claim: its send deadline (O26), and its confirmation, at its window's end or locally (O27).
-/

namespace Sys2Proof.Machine

open Sys2Proof

/-- A row of a station whose blocks run, after which the owners of frames have no report to take. -/
theorem runs_liveFinish {c : Instr} {st : State} {f : Station → Station} {u : Station} {P : Station → Station → Prop}
    (meaning : exec c st = performFinish c (whenLive f) st) (live : st.station.live = true)
    (outcome : f (st.station.take c) = u) (settled : u.Settled) (p : P (st.station.take c) u) : Runs c st P := by
  refine runs_performFinish meaning ?_
  rw [whenLive_live _ f (by simpa using live), outcome, finish_settled u settled]
  exact p

/-- A row of a station whose blocks run. -/
theorem runs_live {c : Instr} {st : State} {f : Station → Station} {P : Station → Station → Prop}
    (meaning : exec c st = perform c (whenLive f) st) (live : st.station.live = true)
    (p : P (st.station.take c) (f (st.station.take c))) : Runs c st P := by
  refine runs_perform meaning ?_
  rw [whenLive_live _ f (by simpa using live)]
  exact p

variable {s : Station}

/-! ### The send deadline (R52) -/

theorem claimDeadline_queued {p : PartyKey} {c : Claim} (claim : s.claimOf p = some c) (queued : c.state = .queued) :
    s.claimDeadline p =
      (((s.reach (c.queueTime + 1000)).withdrawClaim c).failClaim c .linkBusy).countFailed := by
  unfold Station.claimDeadline
  rw [claim]
  dsimp only
  rw [queued]

theorem claimDeadline_sent {p : PartyKey} {c : Claim} {w : Moment} (claim : s.claimOf p = some c)
    (sent : c.state = .sent w) : s.claimDeadline p = s := by
  unfold Station.claimDeadline
  rw [claim]
  dsimp only
  rw [sent]

theorem withdrawClaim_reports (c : Claim) : (s.withdrawClaim c).link.reports = s.link.reports := by
  unfold Station.withdrawClaim
  split <;> rfl

/-- Settles O26, by the claim's state. -/
theorem claimDeadline : Obligations.ClaimDeadline := by
  intro p c s live settled claim
  refine ⟨fun queued => ?_, fun w sent => ?_⟩
  · refine runs_liveFinish rfl live (claimDeadline_queued (s := s.station.take _) claim queued) ?_ ?_
    · exact (withdrawClaim_reports c).trans settled
    · have party : c.party = p := claimOf_party _ claim
      subst party
      unfold Station.withdrawClaim
      cases c.frame <;> rfl
  · exact runs_liveFinish rfl live (claimDeadline_sent (s := s.station.take _) claim sent) settled rfl

/-! ### The confirmation (R33, R51) -/

theorem claimWindow_queued {p : PartyKey} {c : Claim} (claim : s.claimOf p = some c) (queued : c.state = .queued) :
    s.claimWindow p = s := by
  unfold Station.claimWindow
  rw [claim]
  dsimp only
  rw [queued]

theorem claimWindow_sent {p : PartyKey} {c : Claim} {w : Moment} (claim : s.claimOf p = some c)
    (sent : c.state = .sent w) : s.claimWindow p = (s.reach w).confirmClaim c false := by
  unfold Station.claimWindow
  rw [claim]
  dsimp only
  rw [sent]

/-- R33: the claim leaves the table for a holding. -/
def Station.holdingMade (c : Claim) (unannounced : Bool) (openings : BitVec 8) (forced : Bool) (b : Station) : Station :=
  { b with
    claims.claims := b.claims.claims.filter fun d => decide (d.party ≠ c.party)
    claims.confirmed := satInc b.claims.confirmed
    directory.cache :=
      if c.insist then b.directory.cache.filter fun e => !(decide (e.party = c.party) && e.doubtful)
      else b.directory.cache
    lockers.holdings :=
      b.lockers.holdings ++
        [{ locker := c.locker, party := c.party, serial := c.serial, start := b.lockers.minute, openings,
           overstay := false, double := false, unannounced, recovered := false, forced }] }

theorem confirmClaim_eq (c : Claim) (unannounced : Bool) :
    s.confirmClaim c unannounced =
      if s.doorClosed c.locker = true then
        ((s.holdingMade c unannounced 0 false).changeLocker c.locker fun l =>
          { l with
            state := .unbolting
            purpose := some .first
            returnState := some .free
            grantWait := some (s.now + 1000 * s.orders.setup.doorWait)
            boltWait := none }).makeRequest (c.locker - 1) (.bolt .first)
      else (s.holdingMade c unannounced 1 true).settleLocker c.locker .opened := by
  unfold Station.confirmClaim Station.takeConfirmed Station.holdingMade
  cases c.insist <;> rfl

/-- Settles O27: the confirmation, and the claim's state at the end of a window. -/
theorem claimWindow : Obligations.ClaimWindow := by
  refine ⟨fun c unannounced b => confirmClaim_eq c unannounced, fun p c s live settled claim => ⟨fun queued => ?_, fun w sent => ?_⟩⟩
  · exact runs_liveFinish rfl live (claimWindow_queued (s := s.station.take _) claim queued) settled rfl
  · exact runs_liveFinish rfl live (claimWindow_sent (s := s.station.take _) claim sent)
      ((congrArg Link.reports (confirmClaim_link _ c false)).trans settled) (confirmClaim_eq c false)

end Sys2Proof.Machine

/-!
PROOFS. The attempt on the line and its arbitration (O28).
-/

namespace Sys2Proof.Machine

open Sys2Proof

/-! ### What a station drives (R126, R127) -/

/-- R127: the bytes before the check. -/
def bodyBytes (sender : Nat) (f : TxFrame) : List Byte :=
  [BitVec.ofNat 8 (32 * kindCode f.kind + sender), BitVec.ofNat 8 f.content.length] ++ f.content

/-- R126: the ten bits of a byte. -/
def tenBits (b : Byte) : List LineLevel :=
  [.dominant, bitLevel (b.getLsbD 7), bitLevel (b.getLsbD 6), bitLevel (b.getLsbD 5), bitLevel (b.getLsbD 4),
    bitLevel (b.getLsbD 3), bitLevel (b.getLsbD 2), bitLevel (b.getLsbD 1), bitLevel (b.getLsbD 0), .recessive]

theorem frameLevels_eq (sender : Nat) (f : TxFrame) :
    frameLevels sender f =
      (bodyBytes sender f ++ [(frameCheck (bodyBytes sender f)).extractLsb' 8 8,
        (frameCheck (bodyBytes sender f)).extractLsb' 0 8]).flatMap tenBits ++ [.recessive] := by
  have body : wireBytes sender f = bodyBytes sender f := by
    unfold wireBytes bodyBytes arbitrationByte
    rw [Nat.mul_comm]
    rfl
  unfold frameLevels frameBytes
  rw [body]
  rfl

section

variable {s : Station} {before after : List TxFrame} {f : TxFrame}

theorem driven_onLine (onLine : s.frameOnLine = some f) : s.driven = frameLevels s.restart.station f := by
  unfold Station.driven
  rw [onLine]

theorem driven_silent (off : ∀ g ∈ s.link.queue, g.onLine = false) (slot : s.link.spoilSlot = .recessive) :
    s.driven = [] := by
  have none : s.frameOnLine = .none := List.find?_eq_none.2 fun g mem => by simp [off g mem]
  unfold Station.driven
  rw [none, slot]

/-! ### The attempt starts (R134) -/

theorem startAttempt_first (queue : s.link.queue = f :: after) (off : ∀ g ∈ f :: after, g.onLine = false) :
    s.startAttempt = { s.heardLine with link.queue := { f with onLine := true } :: after } := by
  have none : s.clearWatch.frameOnLine = .none :=
    List.find?_eq_none.2 fun g mem => by
      have stands : g ∈ s.link.queue := mem
      simp [off g (queue ▸ stands)]
  have same : s.clearWatch.link.queue = f :: after := queue
  unfold Station.startAttempt
  dsimp only
  rw [none, same]
  rfl

theorem startAttempt_stands (onLine : s.frameOnLine = some f) : s.startAttempt = s.heardLine := by
  have same : s.clearWatch.frameOnLine = some f := onLine
  unfold Station.startAttempt
  dsimp only
  rw [same]
  rfl

/-! ### The attempt loses arbitration (R128) -/

theorem loseArbitration_superseded (onLine : s.frameOnLine = some f) (leaves : s.superseded f = true) :
    s.loseArbitration = s.heardLine.dropFrame f.id := by
  unfold Station.loseArbitration
  rw [onLine]
  exact if_pos leaves

theorem loseArbitration_waits (onLine : s.frameOnLine = some f) (stays : s.superseded f ≠ true) :
    s.loseArbitration = s.heardLine.waitAgain f.id f.attempts := by
  unfold Station.loseArbitration
  rw [onLine]
  exact if_neg stays

theorem frameOnLine_split (queue : s.link.queue = before ++ f :: after) (off : ∀ g ∈ before ++ after, g.onLine = false)
    (on : f.onLine = true) : s.frameOnLine = some f := by
  unfold Station.frameOnLine
  rw [queue]
  exact find?_onLine off on

theorem dropFrame_split (queue : s.link.queue = before ++ f :: after) (ids : (s.link.queue.map (·.id)).Nodup) :
    s.dropFrame f.id = { s with link.queue := before ++ after } := by
  unfold Station.dropFrame
  rw [queue] at ids ⊢
  rw [removeFrame_split ids]

theorem waitAgain_split (queue : s.link.queue = before ++ f :: after) (ids : (s.link.queue.map (·.id)).Nodup)
    (k : Nat) :
    s.waitAgain f.id k = { s with link.queue := before ++ { f with onLine := false, attempts := k } :: after } := by
  unfold Station.waitAgain
  rw [queue] at ids ⊢
  rw [updateFrame_split ids]

end

/-- Settles O28: the attempt starts or stands, and loses arbitration with its frame superseded or not. -/
theorem attemptAndArbitration : Obligations.AttemptAndArbitration := by
  intro before f after s live queue off ids level ten code body sent
  have codes : code = kindCode f.kind := by
    simp only [code]
    cases f.kind <;> rfl
  have sends (a : Station) : sent a = frameLevels a.restart.station f := by
    have bytes : body a = bodyBytes a.restart.station f := by
      simp only [body, codes]
      rfl
    rw [frameLevels_eq, ← bytes]
    rfl
  refine ⟨fun first wait => ?_, fun on => ⟨?_, fun leaves => ?_, fun stays => ?_⟩⟩
  · subst first
    refine runs_live rfl live ?_
    rw [startAttempt_first (s := s.station.take _) queue fun g mem => (List.mem_cons.1 mem).elim (fun e => e ▸ wait) (off g)]
    refine ⟨rfl, (driven_onLine rfl).trans ?_⟩
    exact (sends _).symm
  · have onLine : (s.station.take .frameAttemptStart).frameOnLine = some f := frameOnLine_split queue off on
    refine runs_live rfl live ?_
    rw [startAttempt_stands onLine]
    exact ⟨rfl, (driven_onLine (s := (s.station.take _).heardLine) onLine).trans (sends _).symm⟩
  · have onLine : (s.station.take .arbitrationLost).frameOnLine = some f := frameOnLine_split queue off on
    refine runs_live rfl live ?_
    rw [loseArbitration_superseded onLine ((superseded_iff queue off on).2 leaves),
      dropFrame_split (s := (s.station.take _).heardLine) queue ids]
    exact ⟨rfl, driven_silent off rfl⟩
  · have onLine : (s.station.take .arbitrationLost).frameOnLine = some f := frameOnLine_split queue off on
    refine runs_live rfl live ?_
    rw [loseArbitration_waits onLine (mt (superseded_iff queue off on).1 stays),
      waitAgain_split (s := (s.station.take _).heardLine) queue ids]
    refine ⟨rfl, driven_silent (fun g mem => ?_) rfl⟩
    rcases List.mem_append.1 mem with front | back
    · exact off g (List.mem_append_left _ front)
    · rcases List.mem_cons.1 back with rfl | rest
      · rfl
      · exact off g (List.mem_append_right _ rest)

end Sys2Proof.Machine

/-!
PROOFS. The attempt on the line that is spoiled: it waits again, leaves, or is lost and its owner acts (O29).
-/

namespace Sys2Proof.Machine

open Sys2Proof

/-! ### What the owner of one report does (R138) -/

section

variable (s : Station) {r : FrameReport}

theorem takeReport_idle (kind : r.frame.kind ∈ [.held, .yield, .free, .tally]) : s.takeReport r = s := by
  unfold Station.takeReport
  simp only [List.mem_cons, List.not_mem_nil, or_false] at kind
  rcases kind with k | k | k | k <;> rw [k]

theorem takeReport_recall (kind : r.frame.kind = .recall) : s.takeReport r = s.recallReported r.fate := by
  unfold Station.takeReport
  rw [kind]

theorem takeReport_recount (kind : r.frame.kind = .recount) : s.takeReport r = s.recountReported := by
  unfold Station.takeReport
  rw [kind]

theorem takeReport_claim (kind : r.frame.kind = .claim) (role : r.frame.role = .claim) :
    s.takeReport r = s.claimReported r.frame r.fate := by
  unfold Station.takeReport
  rw [kind]
  dsimp only
  rw [role]

theorem takeReport_announcement {n : Nat} (kind : r.frame.kind = .claim) (role : r.frame.role = .announcement n) :
    s.takeReport r = s.announcementReported r.frame n r.fate := by
  unfold Station.takeReport
  rw [kind]
  dsimp only
  rw [role]

/-- R190: a REPORT for which no RESTART waits. -/
theorem takeReport_report (kind : r.frame.kind = .report)
    (other : ∀ w, s.orders.restartWait = some w → w.frame ≠ r.frame.id) : s.takeReport r = s := by
  unfold Station.takeReport Station.reportReported
  rw [kind]
  dsimp only
  split
  next w wait => exact if_neg (other w wait)
  · rfl

/-- A settled station in front of which one report waits: its owner takes it. -/
theorem finish_behind (settled : s.Settled) (quiet : (s.takeReport r).link.reports = []) :
    (s.behind [r]).finish = s.takeReport r := by
  have before : ({ s.behind [r] with link.reports := [] } : Station) = s := by
    rw [← settled]
    rfl
  have reports : (s.behind [r]).link.reports = [r] := congrArg ([r] ++ ·) settled
  rw [finish_one _ r reports (by rw [before]; exact quiet), before]

end

/-! ### The spoiled attempt (R131) -/

section

variable {s : Station} {before after : List TxFrame} {f : TxFrame}

/-- The attempt's frame has left the queue after its fourth spoil. -/
def Station.attemptLost (queue : List TxFrame) (losses : Nat) (s : Station) : Station :=
  { s.heardLine with
    link.queue := queue
    link.losses := losses
    link.framesLost := satInc s.link.framesLost }

/-- The report of the attempt's frame after its fourth spoil. -/
def lostReport (f : TxFrame) : FrameReport :=
  { frame := { f with attempts := f.attempts + 1, onLine := false }, fate := .notSent }

theorem spoilAttempt_superseded (onLine : s.frameOnLine = some f) (leaves : s.superseded f = true) :
    s.spoilAttempt = s.heardLine.dropFrame f.id := by
  unfold Station.spoilAttempt
  rw [onLine]
  exact if_pos leaves

theorem spoilAttempt_waits (onLine : s.frameOnLine = some f) (stays : s.superseded f ≠ true)
    (few : f.attempts < 3) : s.spoilAttempt = s.heardLine.waitAgain f.id (f.attempts + 1) := by
  unfold Station.spoilAttempt
  rw [onLine]
  exact (if_neg stays).trans (if_pos (by omega))

theorem spoilAttempt_lost (onLine : s.frameOnLine = some f) (stays : s.superseded f ≠ true) (many : 3 ≤ f.attempts)
    (queue : s.link.queue = before ++ f :: after) (ids : (s.link.queue.map (·.id)).Nodup) (settled : s.Settled) :
    s.spoilAttempt =
      (s.attemptLost (before ++ after) (if s.link.up = true then s.link.losses + 1 else s.link.losses)).behind
        [lostReport f] := by
  unfold Station.spoilAttempt
  rw [onLine]
  refine (if_neg stays).trans ((if_neg (by omega)).trans ?_)
  dsimp only
  rw [dropFrame_split (s := s.clearWatch) queue ids]
  unfold Station.behind Station.withReports Station.attemptLost Station.reportFate
  have none : s.link.reports = [] := settled
  simp only [Station.heardLine, Station.clearWatch, none]
  rfl

/-- The attempt fails, and the link stays as the frame's owner leaves it. -/
theorem attemptFailed_stays {t : Station} (told : s.spoilAttempt.finish = t)
    (stays : t.link.up = true → t.link.losses < 4) : s.attemptFailed = t := by
  unfold Station.attemptFailed
  rw [told]
  refine if_neg fun down => ?_
  obtain ⟨up, many⟩ := Bool.and_eq_true_iff.1 down
  exact Nat.not_lt.2 (of_decide_eq_true many) (stays up)

/-- R139: the fourth successive loss. -/
theorem attemptFailed_down {t : Station} (told : s.spoilAttempt.finish = t) (up : t.link.up = true)
    (many : 4 ≤ t.link.losses) : s.attemptFailed = t.goDown := by
  unfold Station.attemptFailed
  rw [told]
  exact if_pos (Bool.and_eq_true_iff.2 ⟨up, decide_eq_true many⟩)

/-- The owner of the lost frame has taken its report, and the losses are fewer than 4. -/
theorem attemptFailed_told {t u : Station} (spoiled : s.spoilAttempt = t.behind [lostReport f]) (settled : t.Settled)
    (told : t.takeReport (lostReport f) = u) (calm : Calm t u) (few : t.link.losses < 4) : s.attemptFailed = u := by
  refine attemptFailed_stays ?_ fun _ => calm.losses ▸ few
  rw [spoiled, finish_behind t settled (by rw [told]; exact calm.reports.trans settled), told]

/-- R139, R190: the owner of the fourth lost frame has taken its report, and the owners of the emptied queue's frames
take theirs. -/
theorem attemptFailed_toldDown {t u : Station} (spoiled : s.spoilAttempt = t.behind [lostReport f])
    (settled : t.Settled) (told : t.takeReport (lostReport f) = u) (calm : Calm t u) (up : t.link.up = true)
    (many : 4 ≤ t.link.losses) (short : u.link.queue.length ≤ 12) (running : t.restart.phase = .running) :
    s.attemptFailed.finish = toldEmptied u.link.queue u.wentDown := by
  have quiet : u.link.reports = [] := calm.reports.trans settled
  have failed : s.attemptFailed = u.goDown := by
    refine attemptFailed_down ?_ (calm.up.trans up) (calm.losses ▸ many)
    rw [spoiled, finish_behind t settled (by rw [told]; exact quiet), told]
  rw [failed]
  exact goDown_finish u quiet (by omega) (by rw [calm.restart]; exact running)

/-- R190: the lost frame is the REPORT that a RESTART waits for. -/
theorem attemptFailed_restart {t : Station} {w : RestartWait} (spoiled : s.spoilAttempt = t.behind [lostReport f])
    (kind : f.kind = .report) (wait : t.orders.restartWait = some w) (id : w.frame = f.id)
    (running : t.restart.phase = .running) : s.attemptFailed = t.ordered := by
  refine attemptFailed_stays ?_ fun _ => Nat.zero_lt_succ 3
  rw [spoiled]
  exact finish_restart t _ _ w kind wait id running

/-! ### What the owner of a lost frame does -/

theorem recallReported_notSent : s.recallReported .notSent = s := rfl

theorem claimReported_gone {fate : Fate} (gone : ∀ d ∈ s.claims.claims, d.frame ≠ some f.id)
    (lost : fate = .notSent) : s.claimReported f fate = s := by
  have none : (s.claims.claims.find? fun d => decide (d.frame = some f.id)) = .none :=
    List.find?_eq_none.2 fun d mem => by simpa using gone d mem
  subst lost
  unfold Station.claimReported
  rw [none]

/-- R50, R53: the claim ends, its locker is FREE, and the message is posted. -/
def Station.claimLost (c : Claim) (b : Station) : Station :=
  (({ b with
      claims.claims := b.claims.claims.filter fun d => decide (d.party ≠ c.party)
      claims.failed := satInc b.claims.failed } : Station).freeLocker c.locker).post .tryAgain

/-- R65: the announcement leaves the list. -/
def Station.unlisted (id : Nat) (b : Station) : Station :=
  { b with claims.announcements := b.claims.announcements.filter fun x => decide (x.frame ≠ id) }

theorem claimReported_fails {c : Claim}
    (claim : (s.claims.claims.find? fun d => decide (d.frame = some f.id)) = some c) :
    s.claimReported f .notSent = s.claimLost c := by
  unfold Station.claimReported
  rw [claim]
  rfl

/-- R65: the announcement of a frame that is listed, or is not. -/
theorem listed_iff {n : Nat} :
    (s.claims.announcements.any fun a => decide (a.locker = n ∧ a.frame = f.id)) = true ↔
      { locker := n, frame := f.id } ∈ s.claims.announcements := by
  simp only [List.any_eq_true, decide_eq_true_eq]
  constructor
  · rintro ⟨⟨l, i⟩, mem, rfl, rfl⟩
    exact mem
  · exact fun mem => ⟨_, mem, rfl, rfl⟩

theorem announcementReported_listed {n : Nat} (listed : { locker := n, frame := f.id } ∈ s.claims.announcements) :
    s.announcementReported f n .notSent = (s.unlisted f.id).continueWalk := by
  unfold Station.announcementReported
  exact if_pos (listed_iff.2 listed)

theorem announcementReported_unlisted {n : Nat}
    (unlisted : { locker := n, frame := f.id } ∉ s.claims.announcements) :
    s.announcementReported f n .notSent = s := by
  unfold Station.announcementReported
  exact if_neg (mt listed_iff.1 unlisted)

end

/-- Settles O29: the frame leaves, waits again, or is lost; then its owner acts, and on a fourth loss the link goes
DOWN. -/
theorem spoiledAttempt : Obligations.SpoiledAttempt := by
  intro cmd before f after s row live settled queue off ids on few superseded
  have meaning : exec cmd s = performFinish cmd (whenLive Station.attemptFailed) s := by
    rcases row with rfl | rfl <;> rfl
  have onLine : (s.station.take cmd).frameOnLine = some f := frameOnLine_split queue off on
  have same : (s.station.take cmd).superseded f = true ↔ superseded := superseded_iff queue off on
  have running : s.station.restart.phase = .running := by
    unfold Station.live at live
    exact of_decide_eq_true (Bool.and_eq_true_iff.1 live).1
  have quietly {t : Station} {P : Station → Station → Prop} (failed : (s.station.take cmd).attemptFailed = t)
      (quiet : t.Settled) (p : P (s.station.take cmd) t) : Runs cmd s P :=
    runs_liveFinish meaning live failed quiet p
  have kept {t : Station} (spoiled : (s.station.take cmd).spoilAttempt = t) (quiet : t.Settled)
      (losses : t.link.losses = s.station.link.losses) {P : Station → Station → Prop} (p : P (s.station.take cmd) t) :
      Runs cmd s P :=
    quietly (attemptFailed_stays (by rw [spoiled, finish_settled t quiet]) fun _ => losses ▸ few) quiet p
  refine ⟨fun leaves => ?_, fun stays waits => ?_, fun stays many down kind => ?_, fun stays many up => ?_⟩
  · refine kept (spoilAttempt_superseded onLine (same.2 leaves)) settled rfl ?_
    exact dropFrame_split (s := (s.station.take cmd).heardLine) queue ids
  · refine kept (spoilAttempt_waits onLine (mt same.1 stays) waits) settled rfl ?_
    exact waitAgain_split (s := (s.station.take cmd).heardLine) queue ids _
  · have spoiled := spoilAttempt_lost onLine (mt same.1 stays) many queue ids settled
    rw [if_neg (by rw [show (s.station.take cmd).link.up = false from down]; exact Bool.false_ne_true)] at spoiled
    refine ⟨fun other => ?_, fun w report wait id => ?_⟩
    · refine quietly (attemptFailed_told spoiled settled ?_ (.refl _) few) settled rfl
      simp only [List.mem_cons, List.not_mem_nil, or_false] at kind
      rcases kind with called | report
      · exact takeReport_recall _ called
      · exact takeReport_report _ report (other report)
    · exact quietly (attemptFailed_restart spoiled report wait id running) rfl rfl
  · have spoiled := spoilAttempt_lost onLine (mt same.1 stays) many queue ids settled
    rw [if_pos (show (s.station.take cmd).link.up = true from up)] at spoiled
    have length : s.station.link.queue.length = (before ++ after).length + 1 := by
      rw [queue]
      simp only [List.length_append, List.length_cons]
      omega
    intro lost told
    have tells {act : Station → Station}
        (acts : (lost (s.station.take cmd)).takeReport (lostReport f) = act (lost (s.station.take cmd)))
        (calm : Calm (lost (s.station.take cmd)) (act (lost (s.station.take cmd))))
        (short : s.station.Room 0 → (act (lost (s.station.take cmd))).link.queue.length ≤ 12) : told act := by
      constructor
      · intro below
        exact quietly (attemptFailed_told spoiled settled acts calm (Nat.succ_lt_succ below))
          (calm.reports.trans settled) rfl
      · intro third room
        refine runs_performFinish meaning ?_
        rw [whenLive_live _ _ (by simpa using live)]
        exact attemptFailed_toldDown spoiled settled acts calm up (Nat.succ_le_succ third.ge) (short room) running
    have idles (acts : (lost (s.station.take cmd)).takeReport (lostReport f) = lost (s.station.take cmd)) :
        told fun b => b :=
      tells (act := fun b => b) acts (.refl _) fun room => by
        have fits : s.station.link.queue.length + 0 ≤ 12 := room
        show (before ++ after).length ≤ 12
        omega
    refine ⟨fun idle => ?_, fun claim role => ⟨fun gone => ?_, fun c found => ?_⟩,
      fun n claim role => ⟨fun listed room => ?_, fun unlisted => ?_⟩, fun recount room => ?_,
      fun report => ⟨fun other => ?_, fun w wait id => ?_⟩⟩
    · refine idles ?_
      by_cases called : f.kind = .recall
      · exact takeReport_recall _ called
      · refine takeReport_idle _ ?_
        simp only [List.mem_cons, List.not_mem_nil, or_false] at idle ⊢
        rcases idle with k | k | k | k | k
        · exact .inl k
        · exact .inr (.inl k)
        · exact .inr (.inr (.inl k))
        · exact absurd k called
        · exact .inr (.inr (.inr k))
    · refine idles ((takeReport_claim _ (r := lostReport f) claim role).trans ?_)
      exact claimReported_gone (s := lost (s.station.take cmd)) (f := (lostReport f).frame) gone rfl
    · refine tells (act := Station.claimLost c) ?_ ⟨rfl, rfl, rfl, rfl, rfl⟩ fun room => ?_
      · refine (takeReport_claim _ (r := lostReport f) claim role).trans ?_
        exact claimReported_fails (s := lost (s.station.take cmd)) (f := (lostReport f).frame) found
      have fits : s.station.link.queue.length + 0 ≤ 12 := room
      show (before ++ after).length ≤ 12
      omega
    · have fits : s.station.link.queue.length + 1 ≤ 12 := room
      obtain ⟨⟨reports, up', losses, restart, orders⟩, bound⟩ :=
        continueWalk_calm ((lost (s.station.take cmd)).unlisted f.id) up
          (by show (before ++ after).length + (2 - _) ≤ 12; omega)
      refine tells (act := fun b => (b.unlisted f.id).continueWalk) ?_ ⟨reports, up', losses, restart, orders⟩
        fun _ => bound.trans ?_
      · refine (takeReport_announcement _ (r := lostReport f) claim role).trans ?_
        exact announcementReported_listed (s := lost (s.station.take cmd)) (f := (lostReport f).frame) listed
      show (before ++ after).length + (2 - _) ≤ 12
      omega
    · exact idles ((takeReport_announcement _ (r := lostReport f) claim role).trans
        (announcementReported_unlisted (s := lost (s.station.take cmd)) (f := (lostReport f).frame) unlisted))
    · have fits : s.station.link.queue.length + 1 ≤ 12 := room
      have produced := produce_calm
        ({ lost (s.station.take cmd) with
            directory.recounts := (lost (s.station.take cmd)).directory.recounts - 1 } : Station)
        (by show (before ++ after).length + (2 - _) ≤ 12; omega)
      obtain ⟨⟨reports, up', losses, restart, orders⟩, bound⟩ := produced
      refine tells (act := Station.recountReported) (takeReport_recount _ recount)
        ⟨reports, up', losses, restart, orders⟩ fun _ => bound.trans ?_
      show (before ++ after).length + (2 - _) ≤ 12
      omega
    · exact idles (takeReport_report _ report other)
    · exact quietly (attemptFailed_restart spoiled report wait id running) rfl rfl

end Sys2Proof.Machine

/-!
PROOFS. The bytes of a party key (R143), and the attempt on the line that delivers its frame (O30).
-/

namespace Sys2Proof.Machine

open Sys2Proof

/-! ### Numbers and party keys in bytes (R143) -/

theorem fromThree_bytes (x : BitVec 24) : fromThree (byteOf 2 x) (byteOf 1 x) (byteOf 0 x) = x := by
  refine BitVec.eq_of_getLsbD_eq fun i bound => ?_
  simp only [fromThree, byteOf, BitVec.getLsbD_append]
  split
  next low => simp [low]
  next high =>
    split
    next middle => simp [show 8 + (i - 8) = i by omega, middle]
    next top => simp [show 16 + (i - 8 - 8) = i by omega, show i - 8 - 8 < 8 by omega]

theorem partyKindOf_code (k : PartyKind) : partyKindOf (PartyKind.code k) = some k := by
  cases k <;> rfl

theorem sentParty_partyBytes (p : PartyKey) (rest : List Byte) : sentParty (partyBytes p ++ rest) = some p := by
  show (partyKindOf (PartyKind.code p.kind)).map
    (fun k => (⟨k, fromThree (byteOf 2 p.number) (byteOf 1 p.number) (byteOf 0 p.number)⟩ : PartyKey)) = some p
  rw [partyKindOf_code, fromThree_bytes]
  rfl

theorem oneByte_toNat {n : Nat} (small : n < 256) : (oneByte n).toNat = n := by
  unfold oneByte
  rw [BitVec.toNat_ofNat]
  exact Nat.mod_eq_of_lt small

theorem claimContent_party (p : PartyKey) (l : Nat) (b : BitVec 24) (z : Size) :
    sentParty (claimContent p l b z) = some p := by
  unfold claimContent
  rw [List.append_assoc, List.append_assoc]
  exact sentParty_partyBytes p _

theorem claimContent_locker (p : PartyKey) {l : Nat} (b : BitVec 24) (z : Size) (small : l ≤ 60) :
    sentLocker (claimContent p l b z) = l := oneByte_toNat (by omega)

section

variable {s : Station} {before after : List TxFrame} {f : TxFrame}

/-! ### The delivered attempt (R131) -/

/-- The attempt's frame has left the queue as delivered. -/
def Station.attemptGone (queue : List TxFrame) (s : Station) : Station :=
  { s.heardLine with link.queue := queue, link.losses := 0 }

/-- R141: the link comes back to UP. -/
def Station.attemptRisen (queue : List TxFrame) (s : Station) : Station :=
  ({ s.attemptGone queue with link.up := true, link.recessiveSeen := false } : Station).startWalk.produce

/-- The report of the attempt's frame as delivered. -/
def sentReport (f : TxFrame) : FrameReport := { frame := { f with onLine := false }, fate := .delivered }

theorem deliverAttempt_split (queue : s.link.queue = before ++ f :: after) (ids : (s.link.queue.map (·.id)).Nodup)
    (settled : s.Settled) :
    (s.deliverAttempt f).clearWatch = (s.attemptGone (before ++ after)).behind [sentReport f] := by
  have none : s.link.reports = [] := settled
  unfold Station.deliverAttempt
  rw [dropFrame_split queue ids]
  unfold Station.reportFate Station.behind Station.withReports Station.attemptGone Station.clearWatch
  simp only [Station.heardLine, none]
  rfl

theorem ownDelivered_stays (onLine : s.frameOnLine = some f) (queue : s.link.queue = before ++ f :: after)
    (ids : (s.link.queue.map (·.id)).Nodup) (settled : s.Settled)
    (stays : s.link.up = true ∨ s.link.recessiveSeen = false) :
    s.ownDelivered = (s.attemptGone (before ++ after)).behind [sentReport f] := by
  have heard := deliverAttempt_split queue ids settled
  unfold Station.ownDelivered
  rw [onLine]
  refine (frameHeard_stays (s.deliverAttempt f) stays).trans ?_
  exact heard

theorem ownDelivered_rises (onLine : s.frameOnLine = some f) (queue : s.link.queue = before ++ f :: after)
    (ids : (s.link.queue.map (·.id)).Nodup) (settled : s.Settled) (down : s.link.up = false)
    (seen : s.link.recessiveSeen = true) :
    s.ownDelivered = (s.attemptRisen (before ++ after)).behind [sentReport f] := by
  have heard := deliverAttempt_split queue ids settled
  unfold Station.ownDelivered
  rw [onLine]
  show (s.deliverAttempt f).frameHeard = _
  unfold Station.frameHeard
  rw [heard]
  refine (if_pos ?_).trans ?_
  · show (!s.link.up && s.link.recessiveSeen) = true
    rw [down, seen]
    rfl
  · exact up_behind [sentReport f]
      ({ s.attemptGone (before ++ after) with link.up := true, link.recessiveSeen := false } : Station)

/-- R64, R83, R135: the walk and the production of a link come back UP find room for their frames. -/
theorem startWalk_produce_calm (up : s.link.up = true) (room : s.Room 4) : Calm s s.startWalk.produce := by
  have fits : s.link.queue.length + 4 ≤ 12 := room
  obtain ⟨walk, length⟩ := continueWalk_calm ({ s with claims.walk := some 1 } : Station) up
    (by show s.link.queue.length + (2 - _) ≤ 12; omega)
  have short : s.startWalk.link.queue.length ≤ s.link.queue.length + (2 - s.claims.announcements.length) := length
  have walked : Calm s s.startWalk := ⟨walk.reports, walk.up, walk.losses, walk.restart, walk.orders⟩
  exact walked.trans (produce_calm s.startWalk (by omega)).1

/-! ### What the owner of a delivered frame does -/

theorem claimReported_sent {c : Claim} (claim : (s.claims.claims.find? fun d => decide (d.frame = some f.id)) = some c) :
    s.claimReported f .delivered = s.changeClaim c.party fun c => { c with state := .sent (s.now + 400) } := by
  unfold Station.claimReported
  rw [claim]

theorem claimReported_late {p : PartyKey} (gone : ∀ d ∈ s.claims.claims, d.frame ≠ some f.id)
    (party : sentParty f.content = some p) :
    s.claimReported f .delivered =
      s.offerIfUp .yield (partyLockerContent p (sentLocker f.content)) .claimUnit := by
  have none : (s.claims.claims.find? fun d => decide (d.frame = some f.id)) = .none :=
    List.find?_eq_none.2 fun d mem => by simpa using gone d mem
  unfold Station.claimReported
  rw [none, party]

theorem announcementReported_sent {n : Nat} (listed : { locker := n, frame := f.id } ∈ s.claims.announcements) :
    s.announcementReported f n .delivered =
      ((s.unlisted f.id).changeHolding n fun h => { h with unannounced := false }).continueWalk := by
  unfold Station.announcementReported
  exact if_pos (listed_iff.2 listed)

theorem announcementReported_late {n : Nat} {p : PartyKey}
    (unlisted : { locker := n, frame := f.id } ∉ s.claims.announcements) (party : sentParty f.content = some p) :
    s.announcementReported f n .delivered = s.offerIfUp .free (partyLockerContent p n) .claimUnit := by
  unfold Station.announcementReported
  refine (if_neg (mt listed_iff.1 unlisted)).trans ?_
  rw [party]

theorem offerIfUp_up (up : s.link.up = true) (kind : Kind) (content : List Byte) (owner : Owner) :
    s.offerIfUp kind content owner = s.offer kind content owner .plain := if_pos up

theorem offerIfUp_down (down : s.link.up = false) (kind : Kind) (content : List Byte) (owner : Owner) :
    s.offerIfUp kind content owner = s := if_neg (by rw [down]; exact Bool.false_ne_true)

/-- The row of a delivered frame whose owner does one thing. -/
theorem runs_delivered {st : State} {t u : Station} {P : Station → Station → Prop} (live : st.station.live = true)
    (gone : (st.station.take .ownFrameDelivered).ownDelivered = t.behind [sentReport f]) (settled : t.Settled)
    (told : t.takeReport (sentReport f) = u) (quiet : u.Settled) (p : P (st.station.take .ownFrameDelivered) u) :
    Runs .ownFrameDelivered st P := by
  refine runs_performFinish rfl ?_
  rw [whenLive_live _ _ (by simpa using live), gone, finish_behind t settled (by rw [told]; exact quiet), told]
  exact p

/-- R190: the delivered frame is the REPORT that a RESTART waits for. -/
theorem runs_delivered_restart {st : State} {t : Station} {w : RestartWait} {P : Station → Station → Prop}
    (live : st.station.live = true)
    (gone : (st.station.take .ownFrameDelivered).ownDelivered = t.behind [sentReport f]) (kind : f.kind = .report)
    (wait : t.orders.restartWait = some w) (id : w.frame = f.id) (running : t.restart.phase = .running)
    (p : P (st.station.take .ownFrameDelivered) t.ordered) : Runs .ownFrameDelivered st P := by
  refine runs_performFinish rfl ?_
  rw [whenLive_live _ _ (by simpa using live), gone]
  exact (finish_restart t (sentReport f).frame .delivered w kind wait id running).symm ▸ p

end

/-- Settles O30: the frame leaves the queue, the link stays or rises, and the frame's owner acts by its kind. -/
theorem ownFrameDelivered : Obligations.OwnFrameDelivered := by
  intro before f after s live settled queue off ids on gone
  have onLine : (s.station.take .ownFrameDelivered).frameOnLine = some f := frameOnLine_split queue off on
  have running : s.station.restart.phase = .running := by
    unfold Station.live at live
    exact of_decide_eq_true (Bool.and_eq_true_iff.1 live).1
  have length : s.station.link.queue.length = (before ++ after).length + 1 := by
    rw [queue]
    simp only [List.length_append, List.length_cons]
    omega
  refine ⟨fun down kind => ?_, fun up => ?_⟩
  · intro marked risen
    have quietly {b : Station} (delivered : (s.station.take .ownFrameDelivered).ownDelivered = b.behind [sentReport f])
        (other : f.kind = .report → ∀ w, b.orders.restartWait = some w → w.frame ≠ f.id) (quiet : b.Settled) :
        Runs .ownFrameDelivered s fun _ t => t = marked b := by
      simp only [List.mem_cons, List.not_mem_nil, or_false] at kind
      rcases kind with called | report
      · exact runs_delivered live delivered quiet (takeReport_recall _ called) quiet (if_pos called).symm
      · refine runs_delivered live delivered quiet (takeReport_report _ report (other report)) quiet (if_neg ?_).symm
        rw [report]
        exact nofun
    have sinks (unseen : s.station.link.recessiveSeen = false) := ownDelivered_stays onLine queue ids settled (.inr unseen)
    have rises (seen : s.station.link.recessiveSeen = true) := ownDelivered_rises onLine queue ids settled down seen
    obtain ⟨orders, restart⟩ := up_frame
      ({ gone (s.station.take .ownFrameDelivered) with link.up := true, link.recessiveSeen := false } : Station)
    refine ⟨fun other => ⟨fun unseen => ?_, fun seen room => ?_⟩,
      fun w report wait id => ⟨fun unseen => ?_, fun seen => ?_⟩⟩
    · exact quietly (sinks unseen) other settled
    · refine quietly (rises seen) (fun report w wait => other report w (orders ▸ wait)) ?_
      have fits : s.station.link.queue.length + 3 ≤ 12 := room
      exact (startWalk_produce_calm
        (s := ({ gone (s.station.take .ownFrameDelivered) with link.up := true, link.recessiveSeen := false } : Station))
        rfl (by show (before ++ after).length + 4 ≤ 12; omega)).reports.trans settled
    · exact runs_delivered_restart live (sinks unseen) report wait id running rfl
    · exact runs_delivered_restart live (rises seen) report (orders.symm ▸ wait) id (restart.symm ▸ running) rfl
  · have stays := ownDelivered_stays onLine queue ids settled (.inl up)
    have acts {u : Station} {P : Station → Station → Prop}
        (told : (gone (s.station.take .ownFrameDelivered)).takeReport (sentReport f) = u) (quiet : u.Settled)
        (p : P (s.station.take .ownFrameDelivered) u) : Runs .ownFrameDelivered s P :=
      runs_delivered live stays settled told quiet p
    refine ⟨fun idle => ?_, fun called => ?_, fun recount room => ?_,
      fun report => ⟨fun other => ?_, fun w wait id => ?_⟩, fun claim => ⟨fun role => ⟨fun c found => ?_,
        fun p l b z small content late room => ?_⟩, fun n role => ⟨fun listed room => ?_,
        fun p l b z content unlisted room => ?_⟩⟩⟩
    · exact acts (takeReport_idle _ idle) settled rfl
    · exact acts (takeReport_recall _ called) settled rfl
    · have fits : s.station.link.queue.length + 1 ≤ 12 := room
      refine acts (takeReport_recount _ recount) ?_ rfl
      exact (produce_calm ({ gone (s.station.take .ownFrameDelivered) with
        directory.recounts := s.station.directory.recounts - 1 } : Station)
        (by show (before ++ after).length + (2 - _) ≤ 12; omega)).1.reports.trans settled
    · exact acts (takeReport_report _ report other) settled rfl
    · exact runs_delivered_restart live stays report wait id running rfl
    · refine acts ((takeReport_claim _ (r := sentReport f) claim role).trans
        (claimReported_sent (s := gone (s.station.take .ownFrameDelivered)) (f := (sentReport f).frame) found))
        settled rfl
    · have fits : s.station.link.queue.length + 0 ≤ 12 := room
      have party : sentParty f.content = some p := by rw [content, claimContent_party]
      have locker : sentLocker f.content = l := by rw [content, claimContent_locker p b z small]
      have told := claimReported_late (s := gone (s.station.take .ownFrameDelivered)) (f := (sentReport f).frame) late party
      rw [offerIfUp_up (s := gone (s.station.take .ownFrameDelivered)) up, show sentLocker (sentReport f).frame.content = l from locker] at told
      refine acts ((takeReport_claim _ (r := sentReport f) claim role).trans told) ?_ rfl
      exact (offer_reports (gone (s.station.take .ownFrameDelivered)) _ _ _ _ (.inl up) (by show (before ++ after).length < 12; omega)).trans settled
    · have fits : s.station.link.queue.length + 1 ≤ 12 := room
      refine acts ((takeReport_announcement _ (r := sentReport f) claim role).trans
        (announcementReported_sent (s := gone (s.station.take .ownFrameDelivered)) (f := (sentReport f).frame) listed))
        ?_ rfl
      exact (continueWalk_calm
        (((gone (s.station.take .ownFrameDelivered)).unlisted f.id).changeHolding n fun h => { h with unannounced := false })
        up (by show (before ++ after).length + (2 - _) ≤ 12; omega)).1.reports.trans settled
    · have fits : s.station.link.queue.length + 0 ≤ 12 := room
      have party : sentParty f.content = some p := by rw [content, claimContent_party]
      have told := announcementReported_late (s := gone (s.station.take .ownFrameDelivered)) (f := (sentReport f).frame)
        unlisted party
      rw [offerIfUp_up (s := gone (s.station.take .ownFrameDelivered)) up] at told
      refine acts ((takeReport_announcement _ (r := sentReport f) claim role).trans told) ?_ rfl
      exact (offer_reports (gone (s.station.take .ownFrameDelivered)) _ _ _ _ (.inl up) (by show (before ++ after).length < 12; omega)).trans settled

end Sys2Proof.Machine

/-!
PROOFS. The line: spoiled and discarded frames, and how the link goes DOWN and comes UP (O31).
-/

namespace Sys2Proof.Machine

open Sys2Proof

section

variable {s : Station}

/-! ### The return to UP beside a command's own event -/

theorem offer_take (c : Instr) (kind : Kind) (content : List Byte) (owner : Owner) (role : Role) :
    (s.take c).offer kind content owner role = (s.offer kind content owner role).take c := by
  unfold Station.offer
  dsimp only [Station.take, Station.newFrame]
  split
  · rfl
  · split
    · rfl
    · split
      · rfl
      · split <;> rfl

theorem walkOn_take (c : Instr) (fuel : Nat) (s : Station) : walkOn fuel (s.take c) = (walkOn fuel s).take c := by
  induction fuel generalizing s with
  | zero => rfl
  | succ k ih =>
    have next (n : Nat) : (s.take c).nextUnannounced n = s.nextUnannounced n := rfl
    have announced (h : Holding) : (s.take c).announce h = (s.announce h).take c := by
      simp only [Station.announce]
      rw [show ∀ n, (s.take c).lockerSize n = s.lockerSize n from fun _ => rfl, offer_take]
      rfl
    have one : (s.take c).walkOne = s.walkOne.map (Station.take c) := by
      unfold Station.walkOne
      simp only [Station.take_claims, next, announced]
      split
      · rfl
      · split
        · split <;> rfl
        · rfl
    unfold walkOn
    rw [one]
    cases s.walkOne with
    | none => rfl
    | some t => exact ih t

theorem produceRecounts_take (c : Instr) (fuel : Nat) (s : Station) :
    produceRecounts fuel (s.take c) = (produceRecounts fuel s).take c := by
  induction fuel generalizing s with
  | zero => rfl
  | succ k ih =>
    have cleared (p : PartyKey) : (s.take c).clearRecount p = (s.clearRecount p).take c := rfl
    have directory : (s.take c).directory = s.directory := rfl
    have up : (s.take c).link.up = s.link.up := rfl
    have one : (s.take c).produceOne = s.produceOne.map (Station.take c) := by
      unfold Station.produceOne
      simp only [directory, up, cleared, offer_take]
      split
      · split
        · rfl
        · split <;> rfl
      · rfl
    unfold produceRecounts
    rw [one]
    cases s.produceOne with
    | none => rfl
    | some t => exact ih t

/-- The walk and the production of a link come back UP read no event that waits between blocks. -/
theorem up_take (c : Instr) (s : Station) : (s.take c).startWalk.produce = s.startWalk.produce.take c := by
  unfold Station.produce Station.startWalk Station.continueWalk
  rw [← produceRecounts_take, ← walkOn_take]
  rfl

/-! ### What the walk and the production leave of the line -/

/-- The line as the link controller follows it (R139). -/
def Station.line (s : Station) : Bool × Nat × LineLevel := (s.link.up, s.link.dominantWatch, s.link.spoilSlot)

theorem offer_line (kind : Kind) (content : List Byte) (owner : Owner) (role : Role) :
    (s.offer kind content owner role).line = s.line := by
  unfold Station.offer
  dsimp only
  split
  · rfl
  · split
    · rfl
    · split
      · rfl
      · split <;> rfl

theorem walkOn_line (fuel : Nat) (s : Station) : (walkOn fuel s).line = s.line := by
  induction fuel generalizing s with
  | zero => rfl
  | succ k ih =>
    unfold walkOn
    split
    · rfl
    next t step =>
      refine (ih t).trans ?_
      unfold Station.walkOne at step
      split at step
      · cases step
      · split at step
        · split at step <;> cases step
          · rfl
          · exact offer_line _ _ _ _
        · cases step

theorem produceRecounts_line (fuel : Nat) (s : Station) : (produceRecounts fuel s).line = s.line := by
  induction fuel generalizing s with
  | zero => rfl
  | succ k ih =>
    unfold produceRecounts
    split
    · rfl
    next t step =>
      refine (ih t).trans ?_
      unfold Station.produceOne at step
      split at step
      · split at step
        · cases step
        · dsimp only at step
          split at step <;> cases step
          · rfl
          · exact (offer_line (s := s.clearRecount _) _ _ _ _).trans rfl
      · cases step

theorem up_line (s : Station) : s.startWalk.produce.line = s.line :=
  (produceRecounts_line _ _).trans (walkOn_line _ _)

/-- R141: the link has come back UP with a frame heard. -/
def Station.risen (s : Station) : Station :=
  ({ s.heardLine with link.up := true, link.losses := 0, link.recessiveSeen := false } : Station).startWalk.produce

theorem frameHeard_rises (down : s.link.up = false) (seen : s.link.recessiveSeen = true) : s.frameHeard = s.risen := by
  refine (if_pos ?_).trans rfl
  show (!s.link.up && s.link.recessiveSeen) = true
  rw [down, seen]
  rfl

theorem frameHeard_risen : s.risen.frameHeard = s.risen := by
  have line : s.risen.line = (true, 0, .recessive) := up_line _
  have up : s.risen.link.up = true := congrArg Prod.fst line
  have watch : s.risen.link.dominantWatch = 0 := congrArg (·.2.1) line
  have slot : s.risen.link.spoilSlot = .recessive := congrArg (·.2.2) line
  rw [frameHeard_stays _ (.inl up)]
  unfold Station.heardLine
  rw [← watch, ← slot]

theorem risen_live : s.risen.live = s.live := by
  obtain ⟨_, restart⟩ :=
    up_frame ({ s.heardLine with link.up := true, link.losses := 0, link.recessiveSeen := false } : Station)
  have same : s.risen.restart = s.restart := restart
  unfold Station.live
  rw [same]

theorem risen_settled (room : s.Room 4) (settled : s.Settled) : s.risen.Settled :=
  (startWalk_produce_calm
    (s := ({ s.heardLine with link.up := true, link.losses := 0, link.recessiveSeen := false } : Station)) rfl
    room).reports.trans settled

/-- With no holding to announce and no mark to act on, a link that comes UP sends nothing. -/
theorem startWalk_produce_idle (announced : ∀ h ∈ s.lockers.holdings, h.unannounced = false)
    (few : s.claims.announcements = []) (unmarked : ∀ e ∈ s.directory.cache, e.recountDue = false) :
    s.startWalk.produce = { s with claims.walk := none } := by
  have ends : ({ s with claims.walk := some 1 } : Station).walkOne = some { s with claims.walk := none } := by
    have none : ({ s with claims.walk := some 1 } : Station).nextUnannounced 1 = none :=
      nextUnannounced_none _ fun h ⟨stands, unannounced, _⟩ =>
        Bool.false_ne_true ((announced h stands).symm.trans unannounced)
    unfold Station.walkOne
    dsimp only
    rw [none, few]
    rfl
  have walked : s.startWalk = { s with claims.walk := none } := by
    unfold Station.startWalk
    rw [continueWalk_step _ ends]
    exact continueWalk_rests _ rfl
  rw [walked]
  refine produce_rests _ ?_
  have none : s.directory.cache.find? (·.recountDue) = none :=
    List.find?_eq_none.2 fun e mem => by simp [unmarked e mem]
  unfold Station.produceOne
  dsimp only
  rw [none]
  split <;> rfl

end

/-! ### The rows by which a frame is heard -/

/-- An ORDER row is taken by the order unit with its code and its frame. -/
theorem order_meaning {cmd : Instr} {code : Byte} {o : OrderFrame} (row : orderRow cmd = some (code, o)) :
    ∃ take, ∀ st, exec cmd st = performOrder cmd code o take st := by
  cases cmd <;> cases row <;> exact ⟨_, fun _ => rfl⟩

theorem receive_heard {sender : BitVec 5} {content : List Byte} {handed : Received → Station → Station} {t u : Station}
    (same : t.frameHeard = u.frameHeard) : t.receive sender content handed = u.receive sender content handed := by
  unfold Station.receive
  rw [same]

theorem orderReceived_heard {code : Byte} {o : OrderFrame} {take : Station → Station × Answer} {t u : Station}
    (same : t.frameHeard = u.frameHeard) : t.orderReceived code o take = u.orderReceived code o take := by
  unfold Station.orderReceived
  rw [same]

/-- A row by which a frame is heard reads the station as it stands when the frame has been heard. -/
theorem heard_meaning {cmd : Instr} (row : hearsFrame cmd ∨ (orderRow cmd).isSome = true) :
    ∃ f : Station → Station, (∀ st, exec cmd st = performFinish cmd (whenLive f) st) ∧
      ∀ t u : Station, t.frameHeard = u.frameHeard → f t = f u := by
  rcases row with ⟨sender, content, mem⟩ | row
  · simp only [List.mem_cons, List.not_mem_nil, or_false] at mem
    rcases mem with rfl | rfl | rfl | rfl | rfl | rfl | rfl <;>
      exact ⟨_, fun _ => rfl, fun _ _ same => receive_heard same⟩
  · obtain ⟨⟨code, o⟩, found⟩ := Option.isSome_iff_exists.1 row
    obtain ⟨take, meaning⟩ := order_meaning found
    exact ⟨_, meaning, fun _ _ same => orderReceived_heard same⟩

/-- R141: on a link that the frame brings UP, such a row acts as on the link that has come UP. -/
theorem exec_risen {cmd : Instr} {st : State} (row : hearsFrame cmd ∨ (orderRow cmd).isSome = true)
    (live : st.station.live = true) (down : st.station.link.up = false) (seen : st.station.link.recessiveSeen = true) :
    exec cmd st = exec cmd { st with station := st.station.risen } := by
  obtain ⟨f, meaning, reads⟩ := heard_meaning row
  have taken : st.station.risen.take cmd = (st.station.take cmd).risen := (up_take cmd _).symm
  have same : (st.station.take cmd).frameHeard = (st.station.risen.take cmd).frameHeard := by
    rw [taken, frameHeard_risen]
    exact frameHeard_rises down seen
  rw [meaning, meaning]
  unfold performFinish perform
  dsimp only
  rw [whenLive_live _ f (by simpa using live), whenLive_live _ f (by simpa [risen_live] using live), reads _ _ same]

/-! ### Going DOWN -/

/-- R142: the link controller tracks the line while the blocks run, and on through a warm start. -/
def Station.tracking (s : Station) : Prop := s.live = true ∨ ∃ cause, s.restart.phase = .warm cause

theorem whenTracking_tracks {s : Station} (f : Station → Station) (tracks : s.tracking) : whenTracking f s = f s := by
  refine if_pos ?_
  rcases tracks with live | ⟨cause, warm⟩
  · rw [live]
    rfl
  · rw [warm]
    exact Bool.or_true _

theorem dominantSpan_down {s : Station} (down : s.link.up = false) :
    s.dominantSpan = { s.heardLine with link.dominantWatch := 20, link.recessiveSeen := false } :=
  if_neg (by rw [show ({ s with link.dominantWatch := 20, link.spoilSlot := .recessive } : Station).link.up = false from down]
             exact Bool.false_ne_true)

theorem dominantSpan_up {s : Station} (up : s.link.up = true) :
    s.dominantSpan = ({ s.heardLine with link.dominantWatch := 20 } : Station).goDown := if_pos up

theorem goDown_empty {s : Station} (empty : s.link.queue = []) :
    s.goDown =
      { s with
        link.up := false
        link.losses := 0
        link.recessiveSeen := false
        directory.recounts := 0
        claims.announcements := []
        claims.walk := none } := by
  unfold Station.goDown
  dsimp only
  rw [empty]
  rfl

/-- 20 ms of recessive line are recorded while the link is DOWN. -/
theorem runs_recessiveSpan {st : State} {P : Station → Station → Prop} (tracks : st.station.tracking)
    (p : P (st.station.take .recessiveSpan)
      { (st.station.take .recessiveSpan).heardLine with
        link.recessiveSeen := st.station.link.recessiveSeen || !st.station.link.up }) :
    Runs .recessiveSpan st P := by
  refine runs_perform rfl ?_
  rw [whenTracking_tracks (s := st.station.take _) _ tracks]
  exact p

theorem runs_dominantSpan {st : State} {t : Station} {P : Station → Station → Prop} (tracks : st.station.tracking)
    (outcome : (st.station.take .dominantWatchExpiry).dominantSpan.finish = t)
    (p : P (st.station.take .dominantWatchExpiry) t) : Runs .dominantWatchExpiry st P := by
  refine runs_performFinish rfl ?_
  rw [whenTracking_tracks (s := st.station.take _) _ tracks, outcome]
  exact p

/-- While the link is DOWN, 20 ms of dominant line clear the recessive span, and 20 ms of recessive line set it. -/
theorem spans_down {st : State} (tracks : st.station.tracking) (settled : st.station.Settled)
    (down : st.station.link.up = false) :
    Runs .dominantWatchExpiry st (fun a t =>
      t = { a.heardLine with link.dominantWatch := 20, link.recessiveSeen := false }) ∧
    Runs .recessiveSpan st (fun a t => t = { a.heardLine with link.recessiveSeen := true }) := by
  constructor
  · refine runs_dominantSpan tracks ?_ rfl
    rw [dominantSpan_down (s := st.station.take _) down]
    exact finish_settled _ settled
  · refine runs_recessiveSpan tracks ?_
    rw [down]
    dsimp only
    rw [show (st.station.link.recessiveSeen || !false) = true from Bool.or_true _]

/-! ### Frames read from others -/

theorem satInc_word (x : BitVec 16) : satInc x = if x = 65535 then 65535 else x + 1 := by
  have last : BitVec.allOnes 16 = 65535 := by decide
  unfold satInc
  rw [last]
  split
  next full => exact full
  · rfl

theorem frameSpoiled_good {s : Station} (bytes : List Byte) : s.frameSpoiled bytes (frameCheck bytes) = s.heardLine := by
  refine if_neg ?_
  rw [decide_eq_false (not_not_intro rfl), Bool.and_false]
  exact Bool.false_ne_true

theorem frameSpoiled_partial {s : Station} {bytes : List Byte} (check : BitVec 16) (partial_ : wholeFrame bytes = false) :
    s.frameSpoiled bytes check = s.heardLine := by
  refine if_neg ?_
  rw [partial_, Bool.false_and]
  exact Bool.false_ne_true

theorem frameSpoiled_bad {s : Station} {bytes : List Byte} {check : BitVec 16} (whole : wholeFrame bytes = true)
    (bad : check ≠ frameCheck bytes) :
    s.frameSpoiled bytes check =
      { s.heardLine with link.spoilSlot := .dominant, link.spoilsDriven := satInc s.link.spoilsDriven } := by
  refine if_pos ?_
  rw [whole, decide_eq_true bad.symm]
  rfl

theorem driven_dominant {s : Station} (off : ∀ g ∈ s.link.queue, g.onLine = false) (slot : s.link.spoilSlot = .dominant) :
    s.driven = [.dominant] := by
  have none : s.frameOnLine = .none := List.find?_eq_none.2 fun g mem => by simp [off g mem]
  unfold Station.driven
  rw [none, slot]

theorem runs_frameDiscarded {st : State} {sender : BitVec 5} {kind : Kind} {content : List Byte} {t : Station}
    {P : Station → Station → Prop} (live : st.station.live = true)
    (heard : (st.station.take (.frameDiscarded sender kind content)).frameHeard = t) (settled : t.Settled)
    (p : P (st.station.take (.frameDiscarded sender kind content)) t) : Runs (.frameDiscarded sender kind content) st P :=
  runs_liveFinish rfl live heard settled p

/-- What a frame read to its end, broken off or discarded changes. -/
theorem frameSpoiled_runs {st : State} (live : st.station.live = true) (bytes : List Byte) (check : BitVec 16) :
    (check = frameCheck bytes → Runs (.frameSpoiled bytes check) st fun a t =>
      t = a.heardLine ∧ ((∀ f ∈ a.link.queue, f.onLine = false) → t.driven = [])) ∧
    ∀ first length content, bytes = first :: length :: content → check ≠ frameCheck bytes →
      (length.toNat ≤ 12 → content.length = length.toNat →
        Runs (.frameSpoiled bytes check) st fun a t =>
          t = { a.heardLine with
                link.spoilSlot := .dominant
                link.spoilsDriven :=
                  if a.link.spoilsDriven = 65535 then 65535 else a.link.spoilsDriven + 1 } ∧
          ((∀ f ∈ a.link.queue, f.onLine = false) → t.driven = [.dominant])) ∧
      (12 < length.toNat ∨ content.length ≠ length.toNat →
        Runs (.frameSpoiled bytes check) st fun a t => t = a.heardLine) := by
  refine ⟨fun good => ?_, fun first length content whole bad => ⟨fun short full => ?_, fun wrong => ?_⟩⟩
  · subst good
    refine runs_live rfl live ?_
    rw [frameSpoiled_good]
    exact ⟨rfl, fun off => driven_silent off rfl⟩
  · have complete : wholeFrame bytes = true := by
      rw [whole]
      exact Bool.and_eq_true_iff.2 ⟨decide_eq_true short, decide_eq_true full⟩
    refine runs_live rfl live ?_
    rw [frameSpoiled_bad complete bad, satInc_word]
    exact ⟨rfl, fun off => driven_dominant off rfl⟩
  · have incomplete : wholeFrame bytes = false := by
      rw [whole]
      refine Bool.and_eq_false_iff.2 (wrong.imp (fun long => decide_eq_false (by omega)) fun other => decide_eq_false other)
    refine runs_live rfl live ?_
    rw [frameSpoiled_partial check incomplete]

/-- Settles O31: the frames of others, then the link's two spans in a warm start and beside it, and its return to UP. -/
theorem lineRows : Obligations.LineRows := by
  refine ⟨fun s live => ⟨frameSpoiled_runs live, fun why => runs_live rfl live rfl, fun sender kind content up settled => ?_⟩,
    fun cause s warm empty settled => ⟨fun up => ?_, spans_down (.inr ⟨cause, warm⟩) settled⟩, fun s live settled => ?_⟩
  · exact runs_frameDiscarded live (frameHeard_stays _ (.inl up)) settled rfl
  · refine runs_dominantSpan (.inr ⟨cause, warm⟩) ?_ rfl
    rw [dominantSpan_up (s := s.station.take _) up,
      goDown_empty (s := ({ (s.station.take _).heardLine with link.dominantWatch := 20 } : Station)) empty]
    exact finish_settled _ settled
  · have running : s.station.restart.phase = .running := by
      unfold Station.live at live
      exact of_decide_eq_true (Bool.and_eq_true_iff.1 live).1
    refine ⟨fun up room => ?_, fun cmd row down seen => exec_risen row live down seen, spans_down (.inl live) settled,
      fun up => ?_, fun sender kind content down => ⟨fun unseen => ?_, fun seen few announced unmarked => ?_, fun seen room => ?_⟩⟩
    · refine runs_dominantSpan (.inl live) ?_ rfl
      rw [dominantSpan_up (s := s.station.take _) up]
      have fits : s.station.link.queue.length + 0 ≤ 12 := room
      exact goDown_finish _ settled (by show s.station.link.queue.length < 400; omega) running
    · refine runs_recessiveSpan (.inl live) ?_
      rw [up]
      dsimp only
      rw [show (s.station.link.recessiveSeen || !true) = s.station.link.recessiveSeen from Bool.or_false _]
      rfl
    · exact runs_frameDiscarded live (frameHeard_stays _ (.inr unseen)) settled rfl
    · have idle : (s.station.take (.frameDiscarded sender kind content)).risen = _ :=
        startWalk_produce_idle announced few unmarked
      exact runs_frameDiscarded live ((frameHeard_rises (s := s.station.take _) down seen).trans idle) settled rfl
    · exact runs_frameDiscarded live (frameHeard_rises (s := s.station.take _) down seen)
        (risen_settled (s := s.station.take _) room settled) rfl

end Sys2Proof.Machine

/-!
PROOFS. The directory's facts, touches and redirect records (O32).
-/

namespace Sys2Proof.Machine

open Sys2Proof

variable {s : Station}

/-! ### Facts and touches (R71, R72) -/

/-- R72: the entry that a fact is written as. -/
def factEntry (p : PartyKey) (holder locker : Nat) (serial : BitVec 24) : DirectoryEntry :=
  { party := p, holder, locker, serial, doubtful := false, recountDue := false }

theorem entryOf_isSome_iff {p : PartyKey} : (s.entryOf p).isSome = true ↔ ∃ e ∈ s.directory.cache, e.party = p := by
  simp only [Station.entryOf, List.find?_isSome, decide_eq_true_eq]

theorem learn_known {p : PartyKey} {holder locker : Nat} {serial : BitVec 24}
    (known : ∃ e ∈ s.directory.cache, e.party = p) :
    s.learn p holder locker serial =
      { s with directory.cache := s.withoutEntry p ++ [factEntry p holder locker serial] } := by
  unfold Station.learn
  rw [if_pos (entryOf_isSome_iff.2 known)]
  rfl

theorem learn_unknown {p : PartyKey} {holder locker : Nat} {serial : BitVec 24}
    (unknown : ∀ e ∈ s.directory.cache, e.party ≠ p) :
    s.learn p holder locker serial =
      { s with
        directory.cache :=
          (if 128 ≤ s.directory.cache.length then s.directory.cache.drop 1 else s.directory.cache) ++
            [factEntry p holder locker serial] } := by
  have fresh : ¬(s.entryOf p).isSome = true := fun some => by
    obtain ⟨e, mem, party⟩ := entryOf_isSome_iff.1 some
    exact unknown e mem party
  unfold Station.learn
  rw [if_neg fresh]
  rfl

/-! ### Redirect records (R78) -/

/-- The one of two records with the earlier moment, the first among equals. -/
def earlierRecord (best x : Redirect) : Redirect := if x.moment < best.moment then x else best

theorem foldl_earlier_stays {best : Redirect} {l : List Redirect} (least : ∀ x ∈ l, best.moment ≤ x.moment) :
    l.foldl earlierRecord best = best := by
  induction l with
  | nil => rfl
  | cons x rest ih =>
    have stays : earlierRecord best x = best := if_neg (Nat.not_lt.2 (least x (List.mem_cons_self ..)))
    rw [List.foldl_cons, stays]
    exact ih fun y mem => least y (List.mem_cons_of_mem _ mem)

theorem foldl_earlier_later {best r : Redirect} {l : List Redirect} (later : r.moment < best.moment)
    (rest : ∀ x ∈ l, r.moment < x.moment) : r.moment < (l.foldl earlierRecord best).moment := by
  induction l generalizing best with
  | nil => exact later
  | cons x l ih =>
    refine ih (best := earlierRecord best x) ?_ fun y mem => rest y (List.mem_cons_of_mem _ mem)
    unfold earlierRecord
    split
    · exact rest x (List.mem_cons_self ..)
    · exact later

/-- R78: the earliest record that stands first leaves. -/
theorem withoutEarliest_split {before after : List Redirect} {r : Redirect}
    (front : ∀ x ∈ before, r.moment < x.moment) (back : ∀ x ∈ after, r.moment ≤ x.moment) :
    withoutEarliest (before ++ r :: after) = before ++ after := by
  have absent : r ∉ before := fun mem => Nat.lt_irrefl _ (front r mem)
  have erased : (before ++ r :: after).erase r = before ++ after := by
    rw [List.erase_append_right _ absent, List.erase_cons_head]
  cases before with
  | nil =>
    have least : after.foldl earlierRecord r = r := foldl_earlier_stays back
    show (r :: after).erase (after.foldl earlierRecord r) = after
    rw [least]
    exact erased
  | cons b before =>
    have later := foldl_earlier_later (front b (List.mem_cons_self ..)) fun x mem => front x (List.mem_cons_of_mem _ mem)
    have least : (before ++ r :: after).foldl earlierRecord b = r := by
      rw [List.foldl_append, List.foldl_cons, show earlierRecord (before.foldl earlierRecord b) r = r from if_pos later]
      exact foldl_earlier_stays back
    show (b :: (before ++ r :: after)).erase ((before ++ r :: after).foldl earlierRecord b) = _
    rw [least]
    exact erased

theorem redirectOf_none {b : BitVec 24} (fresh : ∀ r ∈ s.directory.redirects, r.serial ≠ b) :
    s.redirectOf b = none :=
  List.find?_eq_none.2 fun r mem => by simpa using fresh r mem

theorem recordRedirect_known {b : BitVec 24} {m : Moment} (known : ∃ r ∈ s.directory.redirects, r.serial = b) :
    s.recordRedirect b m =
      { s with
        directory.redirects :=
          updateWhere (fun r => decide (r.serial = b)) (fun r => { r with moment := m }) s.directory.redirects } := by
  have found : (s.redirectOf b).isSome = true := by
    simpa only [Station.redirectOf, List.find?_isSome, decide_eq_true_eq] using known
  obtain ⟨r, redirect⟩ := Option.isSome_iff_exists.1 found
  unfold Station.recordRedirect
  rw [redirect]

theorem recordRedirect_fresh {b : BitVec 24} {m : Moment} (fresh : ∀ r ∈ s.directory.redirects, r.serial ≠ b) :
    s.recordRedirect b m =
      { s with
        directory.redirects :=
          (if 16 ≤ s.directory.redirects.length then withoutEarliest s.directory.redirects
            else s.directory.redirects) ++ [{ serial := b, moment := m }] } := by
  unfold Station.recordRedirect
  rw [redirectOf_none fresh]

/-- Settles O32: a fact by what the cache knows, a touch, and a redirect record by what the list holds. -/
theorem directoryKeeps : Obligations.DirectoryKeeps := by
  intro s
  refine ⟨fun p x l b => ⟨learn_known, fun unknown few => ?_, fun oldest rest unknown cache full => ?_⟩,
    fun p e entry => ?_, fun b m => ⟨recordRedirect_known, fun fresh => ⟨fun few => ?_,
      fun before r after list full front back => ?_⟩⟩⟩
  · rw [learn_unknown unknown, if_neg (by omega)]
    rfl
  · rw [learn_unknown unknown, if_pos (by omega), cache]
    rfl
  · unfold Station.touchEntry
    rw [entry]
    rfl
  · rw [recordRedirect_fresh fresh, if_neg (by omega)]
  · rw [recordRedirect_fresh fresh, if_pos full, list, withoutEarliest_split front back]

end Sys2Proof.Machine

/-!
PROOFS. HELD, YIELD, FREE and CLAIM frames of other stations (O33, O34, O35).
-/

namespace Sys2Proof.Machine

open Sys2Proof

/-! ### A frame that is handed to the blocks (R132) -/

section

variable {s : Station} {sender : BitVec 5} {content : List Byte} {handed : Received → Station → Station}

theorem receive_own (stays : s.link.up = true ∨ s.link.recessiveSeen = false)
    (own : sender.toNat = s.restart.station) : s.receive sender content handed = s.heardLine := by
  unfold Station.receive
  rw [frameHeard_stays s stays]
  exact if_pos own

theorem receive_handed (stays : s.link.up = true ∨ s.link.recessiveSeen = false)
    (other : sender.toNat ≠ s.restart.station) :
    s.receive sender content handed = handed { moment := s.now, sender, content } s.heardLine := by
  unfold Station.receive
  rw [frameHeard_stays s stays]
  exact if_neg other

theorem Station.Ready.stays (ready : s.Ready) : s.link.up = true ∨ s.link.recessiveSeen = false :=
  ready.link.imp_right And.left

/-- A received frame of another station has the effect of the blocks it is handed to. -/
theorem runs_received {cmd : Instr} {st : State} {u : Station} {P : Station → Station → Prop}
    (meaning : exec cmd st = performFinish cmd (whenLive (Station.receive sender content handed)) st)
    (ready : st.station.Ready) (other : sender.toNat ≠ st.station.restart.station)
    (effect : handed { moment := st.station.now, sender, content } (st.station.take cmd).heardLine = u)
    (settled : u.Settled) (p : P (st.station.take cmd) u) : Runs cmd st P :=
  runs_liveFinish meaning ready.live ((receive_handed (s := st.station.take cmd) ready.stays other).trans effect)
    settled p

theorem received_party (m : Moment) (p : PartyKey) (rest : List Byte) :
    ({ moment := m, sender, content := partyBytes p ++ rest } : Received).party 0 = some p := by
  show (partyKindOf (PartyKind.code p.kind)).map
    (fun k => (⟨k, fromThree (byteOf 2 p.number) (byteOf 1 p.number) (byteOf 0 p.number)⟩ : PartyKey)) = some p
  rw [partyKindOf_code, fromThree_bytes]
  rfl

theorem usableFact_iff {holder locker : Nat} :
    usableFact holder locker = true ↔ 1 ≤ holder ∧ holder ≤ 27 ∧ 1 ≤ locker ∧ locker ≤ 60 := by
  simp only [usableFact, Bool.and_eq_true, decide_eq_true_eq, and_assoc]

/-- A redirect record changes the redirect list and nothing else. -/
theorem recordRedirect_frame (b : BitVec 24) (m : Moment) :
    s.recordRedirect b m = { s with directory.redirects := (s.recordRedirect b m).directory.redirects } := by
  unfold Station.recordRedirect
  split <;> rfl

theorem recordRedirect_countFailed (b : BitVec 24) (m : Moment) :
    (s.recordRedirect b m).countFailed = s.countFailed.recordRedirect b m := by
  rw [recordRedirect_frame, recordRedirect_frame (s := s.countFailed)]
  unfold Station.recordRedirect
  have same : s.countFailed.redirectOf b = s.redirectOf b := rfl
  rw [same]
  cases s.redirectOf b <;> rfl

end

/-! ### HELD (R57 to R59, R75) -/

section

variable {s : Station} {sender : BitVec 5} {p : PartyKey} {l claimer : Byte} {m : Moment}

/-- A HELD as it is handed to the blocks. -/
def heldFrame (m : Moment) (sender : BitVec 5) (p : PartyKey) (l claimer : Byte) : Received :=
  { moment := m, sender, content := partyBytes p ++ [l, claimer] }

/-- R75: the sender is learned as the holder, with the band that was known. -/
def Station.learnedHeld (p : PartyKey) (holder locker : Nat) (s : Station) : Station :=
  s.learn p holder locker ((s.entryOf p).elim 0 (·.serial))

theorem learnHeld_usable (usable : usableFact sender.toNat l.toNat = true) :
    s.learnHeld (heldFrame m sender p l claimer) = s.learnedHeld p sender.toNat l.toNat := by
  unfold Station.learnHeld heldFrame
  rw [received_party]
  exact if_pos usable

theorem takeHeld_claim {c : Claim} (usable : usableFact sender.toNat l.toNat = true) (claim : s.claimOf p = some c) :
    s.takeHeld (heldFrame m sender p l claimer) =
      (s.learnedHeld p sender.toNat l.toNat).claimHeld (heldFrame m sender p l claimer) c := by
  have same : (s.learnedHeld p sender.toNat l.toNat).claimOf p = some c := claim
  unfold Station.takeHeld
  rw [learnHeld_usable usable, show (heldFrame m sender p l claimer).party 0 = some p from received_party m p _]
  dsimp only
  rw [same]

theorem takeHeld_holding {h : Holding} (usable : usableFact sender.toNat l.toNat = true) (free : s.claimOf p = none)
    (holding : s.holdingOf p = some h) :
    s.takeHeld (heldFrame m sender p l claimer) = (s.learnedHeld p sender.toNat l.toNat).setDouble h := by
  have noClaim : (s.learnedHeld p sender.toNat l.toNat).claimOf p = none := free
  have same : (s.learnedHeld p sender.toNat l.toNat).holdingOf p = some h := holding
  unfold Station.takeHeld
  rw [learnHeld_usable usable, show (heldFrame m sender p l claimer).party 0 = some p from received_party m p _]
  dsimp only
  rw [noClaim]
  dsimp only
  rw [same]

theorem takeHeld_neither (usable : usableFact sender.toNat l.toNat = true) (free : s.claimOf p = none)
    (unheld : s.holdingOf p = none) :
    s.takeHeld (heldFrame m sender p l claimer) = s.learnedHeld p sender.toNat l.toNat := by
  have noClaim : (s.learnedHeld p sender.toNat l.toNat).claimOf p = none := free
  have noHolding : (s.learnedHeld p sender.toNat l.toNat).holdingOf p = none := unheld
  unfold Station.takeHeld
  rw [learnHeld_usable usable, show (heldFrame m sender p l claimer).party 0 = some p from received_party m p _]
  dsimp only
  rw [noClaim]
  dsimp only
  rw [noHolding]

theorem claimHeld_sent {c : Claim} {w : Moment} (sent : c.state = .sent w) :
    s.claimHeld (heldFrame m sender p l claimer) c =
      ((s.offerIfUp .yield (partyLockerContent c.party c.locker) .claimUnit).failRedirected c sender.toNat
        l.toNat).countYielded := by
  unfold Station.claimHeld
  rw [sent]
  rfl

theorem claimHeld_queued {c : Claim} (queued : c.state = .queued) :
    s.claimHeld (heldFrame m sender p l claimer) c =
      ((s.withdrawClaim c).failRedirected c sender.toNat l.toNat).countFailed := by
  unfold Station.claimHeld
  rw [queued]
  rfl

theorem failRedirected_link (c : Claim) (bank locker : Nat) : (s.failRedirected c bank locker).link = s.link := by
  unfold Station.failRedirected
  rw [recordRedirect_frame]
  rfl

theorem failRedirected_counts (c : Claim) (bank locker : Nat) :
    (s.failRedirected c bank locker).claims.yielded = s.claims.yielded ∧
      (s.failRedirected c bank locker).claims.failed = s.claims.failed := by
  unfold Station.failRedirected
  rw [recordRedirect_frame]
  exact ⟨rfl, rfl⟩

theorem failRedirected_countYielded (c : Claim) (bank locker : Nat) :
    (s.failRedirected c bank locker).countYielded =
      { s.failRedirected c bank locker with claims.yielded := satInc s.claims.yielded } := by
  unfold Station.countYielded
  rw [(failRedirected_counts c bank locker).1]

theorem failRedirected_countFailed (c : Claim) (bank locker : Nat) :
    (s.failRedirected c bank locker).countFailed =
      { s.failRedirected c bank locker with claims.failed := satInc s.claims.failed } := by
  unfold Station.countFailed
  rw [(failRedirected_counts c bank locker).2]

theorem withdrawClaim_failed (c : Claim) : (s.withdrawClaim c).claims.failed = s.claims.failed := by
  unfold Station.withdrawClaim
  split <;> rfl

theorem setDouble_double {h : Holding} (double : h.double = true) : s.setDouble h = s := if_pos double

theorem setDouble_single {h : Holding} (single : h.double = false) :
    s.setDouble h =
      ({ s with lockers.doubles := satInc s.lockers.doubles } : Station).changeHolding h.locker
        fun h => { h with double := true } :=
  (if_neg (by rw [single]; exact Bool.false_ne_true)).trans rfl

end

/-- Settles O33, by the place that the party has here. -/
theorem heldReceived : Obligations.HeldReceived := by
  intro sender p l claimer s ready other fromOne upTo locker lockers cmd learned redirected
  have usable : usableFact sender.toNat l.toNat = true := usableFact_iff.2 ⟨fromOne, upTo, locker, lockers⟩
  have learns (a : Station) : learned a = a.heardLine.learnedHeld p sender.toNat l.toNat := by
    show Station.learn p sender.toNat l.toNat (match a.entryOf p with | some e => e.serial | none => 0) a.heardLine =
      Station.learn p sender.toNat l.toNat ((a.entryOf p).elim 0 (·.serial)) a.heardLine
    cases a.entryOf p <;> rfl
  have effect {u : Station} {P : Station → Station → Prop}
      (taken : (s.station.take cmd).heardLine.takeHeld (heldFrame s.station.now sender p l claimer) = u)
      (settled : u.Settled) (q : P (s.station.take cmd) u) : Runs cmd s P :=
    runs_received rfl ready other taken settled q
  refine ⟨fun c w claim sent => ⟨fun up room => ?_, fun down => ?_⟩, fun c claim queued => ?_,
    fun free => ⟨fun unheld => ?_, fun h holding => ⟨fun double => ?_, fun single => ?_⟩⟩⟩
  · have party : c.party = p := claimOf_party _ claim
    subst party
    have isUp : ((s.station.take cmd).heardLine.learnedHeld c.party sender.toNat l.toNat).link.up = true := up
    refine effect ((takeHeld_claim (s := (s.station.take cmd).heardLine) usable claim).trans (claimHeld_sent sent)) ?_ ?_
    · refine (congrArg Link.reports (failRedirected_link _ _ _)).trans ?_
      rw [offerIfUp_up isUp]
      exact (offer_reports _ _ _ _ _ (.inl isUp) room).trans ready.settled
    · rw [failRedirected_countYielded, offerIfUp_up isUp, offer_claims, ← learns]
      rfl
  · have party : c.party = p := claimOf_party _ claim
    subst party
    have isDown : ((s.station.take cmd).heardLine.learnedHeld c.party sender.toNat l.toNat).link.up = false := down
    refine effect ((takeHeld_claim (s := (s.station.take cmd).heardLine) usable claim).trans (claimHeld_sent sent)) ?_ ?_
    · refine (congrArg Link.reports (failRedirected_link _ _ _)).trans ?_
      rw [offerIfUp_down isDown]
      exact ready.settled
    · rw [failRedirected_countYielded, offerIfUp_down isDown, ← learns]
      rfl
  · have party : c.party = p := claimOf_party _ claim
    subst party
    refine effect ((takeHeld_claim (s := (s.station.take cmd).heardLine) usable claim).trans (claimHeld_queued queued)) ?_ ?_
    · exact (congrArg Link.reports (failRedirected_link _ _ _)).trans ((withdrawClaim_reports c).trans ready.settled)
    · rw [failRedirected_countFailed, withdrawClaim_failed, ← learns]
      rfl
  · exact effect (takeHeld_neither (s := (s.station.take cmd).heardLine) usable free unheld) ready.settled (learns _).symm
  · exact effect ((takeHeld_holding (s := (s.station.take cmd).heardLine) usable free holding).trans
      (setDouble_double double)) ready.settled (learns _).symm
  · refine effect ((takeHeld_holding (s := (s.station.take cmd).heardLine) usable free holding).trans
      (setDouble_single single)) ready.settled ?_
    rw [learns]
    rfl

end Sys2Proof.Machine

/-!
PROOFS. YIELD, FREE and CLAIM frames of other stations (O34, O35).
-/

namespace Sys2Proof.Machine

open Sys2Proof

/-! ### YIELD and FREE (R77) -/

section

variable {s : Station} {sender : BitVec 5} {p : PartyKey} {m : Moment}

theorem forget_named {e : DirectoryEntry} {x : Nat} (entry : s.entryOf p = some e) (named : e.holder = x) :
    s.forget p x = { s with directory.cache := s.withoutEntry p } := by
  unfold Station.forget
  rw [entry]
  exact if_pos named

theorem forget_unnamed {e : DirectoryEntry} {x : Nat} (entry : s.entryOf p = some e) (unnamed : e.holder ≠ x) :
    s.forget p x = s := by
  unfold Station.forget
  rw [entry]
  exact if_neg unnamed

theorem forget_unknown {x : Nat} (unknown : s.entryOf p = none) : s.forget p x = s := by
  unfold Station.forget
  rw [unknown]

theorem takeLetGo_eq (rest : List Byte) :
    s.takeLetGo { moment := m, sender, content := partyBytes p ++ rest } = s.forget p sender.toNat := by
  unfold Station.takeLetGo
  rw [received_party]
  rfl

end

/-- Settles O34, by the party's entry in the cache. -/
theorem yieldAndFreeReceived : Obligations.YieldAndFreeReceived := by
  intro cmd sender p l s row ready other
  have meaning : exec cmd s =
      performFinish cmd (whenLive (Station.receive sender (partyBytes p ++ [l]) Station.takeLetGo)) s := by
    rcases row with rfl | rfl <;> rfl
  have effect {u : Station} {P : Station → Station → Prop}
      (forgotten : (s.station.take cmd).heardLine.forget p sender.toNat = u) (settled : u.Settled)
      (q : P (s.station.take cmd) u) : Runs cmd s P :=
    runs_received meaning ready other ((takeLetGo_eq [l]).trans forgotten) settled q
  refine ⟨fun e entry named => ?_, fun e entry unnamed => ?_, fun unknown => ?_⟩
  · exact effect (forget_named (s := (s.station.take cmd).heardLine) entry named) ready.settled rfl
  · exact effect (forget_unnamed (s := (s.station.take cmd).heardLine) entry unnamed) ready.settled rfl
  · exact effect (forget_unknown (s := (s.station.take cmd).heardLine) unknown) ready.settled rfl

/-! ### CLAIM (R42, R55, R56, R74) -/

section

variable {s : Station} {sender : BitVec 5} {p : PartyKey} {l b0 b1 b2 size : Byte} {m : Moment}

/-- A CLAIM as it is handed to the blocks. -/
def claimFrame (m : Moment) (sender : BitVec 5) (p : PartyKey) (l b0 b1 b2 size : Byte) : Received :=
  { moment := m, sender, content := partyBytes p ++ [l, b0, b1, b2, size] }

theorem learnClaim_usable (usable : usableFact sender.toNat l.toNat = true) :
    s.learnClaim (claimFrame m sender p l b0 b1 b2 size) = s.learn p sender.toNat l.toNat (b0 ++ b1 ++ b2) := by
  unfold Station.learnClaim claimFrame
  rw [received_party]
  exact if_pos usable

theorem takeClaim_claim {c : Claim} (usable : usableFact sender.toNat l.toNat = true) (claim : s.claimOf p = some c) :
    s.takeClaim (claimFrame m sender p l b0 b1 b2 size) =
      (s.learn p sender.toNat l.toNat (b0 ++ b1 ++ b2)).claimClaimed (claimFrame m sender p l b0 b1 b2 size) c := by
  have same : (s.learn p sender.toNat l.toNat (b0 ++ b1 ++ b2)).claimOf p = some c := claim
  unfold Station.takeClaim
  rw [learnClaim_usable usable,
    show (claimFrame m sender p l b0 b1 b2 size).party 0 = some p from received_party m p _]
  dsimp only
  rw [same]

theorem takeClaim_holding {h : Holding} (usable : usableFact sender.toNat l.toNat = true) (free : s.claimOf p = none)
    (holding : s.holdingOf p = some h) :
    s.takeClaim (claimFrame m sender p l b0 b1 b2 size) =
      (s.learn p sender.toNat l.toNat (b0 ++ b1 ++ b2)).offerIfUp .held (heldContent h.party h.locker sender.toNat)
        .lockerTable := by
  have noClaim : (s.learn p sender.toNat l.toNat (b0 ++ b1 ++ b2)).claimOf p = none := free
  have same : (s.learn p sender.toNat l.toNat (b0 ++ b1 ++ b2)).holdingOf p = some h := holding
  unfold Station.takeClaim
  rw [learnClaim_usable usable,
    show (claimFrame m sender p l b0 b1 b2 size).party 0 = some p from received_party m p _]
  dsimp only
  rw [noClaim]
  dsimp only
  rw [same]
  rfl

theorem takeClaim_neither (usable : usableFact sender.toNat l.toNat = true) (free : s.claimOf p = none)
    (unheld : s.holdingOf p = none) :
    s.takeClaim (claimFrame m sender p l b0 b1 b2 size) = s.learn p sender.toNat l.toNat (b0 ++ b1 ++ b2) := by
  have noClaim : (s.learn p sender.toNat l.toNat (b0 ++ b1 ++ b2)).claimOf p = none := free
  have noHolding : (s.learn p sender.toNat l.toNat (b0 ++ b1 ++ b2)).holdingOf p = none := unheld
  unfold Station.takeClaim
  rw [learnClaim_usable usable,
    show (claimFrame m sender p l b0 b1 b2 size).party 0 = some p from received_party m p _]
  dsimp only
  rw [noClaim]
  dsimp only
  rw [noHolding]

theorem claimClaimed_queued {c : Claim} (queued : c.state = .queued) :
    s.claimClaimed (claimFrame m sender p l b0 b1 b2 size) c =
      ((s.withdrawClaim c).failRedirected c sender.toNat l.toNat).countFailed := by
  unfold Station.claimClaimed
  rw [queued]
  rfl

theorem claimClaimed_sent {c : Claim} {w : Moment} (sent : c.state = .sent w) :
    s.claimClaimed (claimFrame m sender p l b0 b1 b2 size) c =
      s.offerIfUp .held (heldContent c.party c.locker sender.toNat) .claimUnit := by
  unfold Station.claimClaimed
  rw [sent]
  rfl

/-- R55: the count may rise before the redirect is recorded. -/
theorem failRedirected_countFailed_first (c : Claim) (bank locker : Nat) :
    (s.failRedirected c bank locker).countFailed =
      ((({ s with
          claims.claims := s.claims.claims.filter fun d => decide (d.party ≠ c.party)
          claims.failed := satInc s.claims.failed } : Station).freeLocker c.locker).post
        (.goToBank bank locker)).recordRedirect c.serial s.now :=
  recordRedirect_countFailed c.serial s.now

end

/-- Settles O35, by the place that the party has here. -/
theorem claimReceived : Obligations.ClaimReceived := by
  intro sender p l b0 b1 b2 size s ready other fromOne upTo locker lockers cmd learned
  have usable : usableFact sender.toNat l.toNat = true := usableFact_iff.2 ⟨fromOne, upTo, locker, lockers⟩
  have effect {u : Station} {P : Station → Station → Prop}
      (taken : (s.station.take cmd).heardLine.takeClaim (claimFrame s.station.now sender p l b0 b1 b2 size) = u)
      (settled : u.Settled) (q : P (s.station.take cmd) u) : Runs cmd s P :=
    runs_received rfl ready other taken settled q
  have draws {content : List Byte} {owner : Owner}
      (taken : (s.station.take cmd).heardLine.takeClaim (claimFrame s.station.now sender p l b0 b1 b2 size) =
        (learned (s.station.take cmd)).offerIfUp .held content owner) :
      (s.station.link.up = true → s.station.Room 1 → Runs cmd s fun a t =>
        t = (learned a).offer .held content owner .plain) ∧
      (s.station.link.up = false → Runs cmd s fun a t => t = learned a) := by
    refine ⟨fun up room => ?_, fun down => ?_⟩
    · have isUp : (learned (s.station.take cmd)).link.up = true := up
      exact effect (taken.trans (offerIfUp_up isUp _ _ _))
        ((offer_reports _ _ _ _ _ (.inl isUp) room).trans ready.settled) rfl
    · have isDown : (learned (s.station.take cmd)).link.up = false := down
      exact effect (taken.trans (offerIfUp_down isDown _ _ _)) ready.settled rfl
  refine ⟨fun c claim queued => ?_, fun c w claim sent => ?_, fun free => ⟨fun unheld => ?_, fun h holding => ?_⟩⟩
  · have party : c.party = p := claimOf_party _ claim
    subst party
    refine effect ((takeClaim_claim (s := (s.station.take cmd).heardLine) usable claim).trans
      (claimClaimed_queued queued)) ?_ ?_
    · exact (congrArg Link.reports (failRedirected_link _ _ _)).trans ((withdrawClaim_reports c).trans ready.settled)
    · rw [failRedirected_countFailed_first]
      unfold Station.withdrawClaim
      cases c.frame <;> rfl
  · have party : c.party = p := claimOf_party _ claim
    subst party
    exact draws ((takeClaim_claim (s := (s.station.take cmd).heardLine) usable claim).trans (claimClaimed_sent sent))
  · exact effect (takeClaim_neither (s := (s.station.take cmd).heardLine) usable free unheld) ready.settled rfl
  · have party : h.party = p := holdingOf_party _ holding
    subst party
    exact draws (takeClaim_holding (s := (s.station.take cmd).heardLine) usable free holding)

end Sys2Proof.Machine

/-!
PROOFS. RECOUNT, RECALL and TALLY frames of other stations (O36, O37, O38).
-/

namespace Sys2Proof.Machine

open Sys2Proof

/-! ### RECOUNT (R76, R198) -/

section

variable {s : Station} {sender : BitVec 5} {p : PartyKey} {x l b0 b1 b2 : Byte} {m : Moment}

/-- A RECOUNT as it is handed to the blocks. -/
def recountFrame (m : Moment) (sender : BitVec 5) (x : Byte) (p : PartyKey) (l b0 b1 b2 : Byte) : Received :=
  { moment := m, sender, content := [x] ++ partyBytes p ++ [l, b0, b1, b2] }

theorem recountFrame_party : (recountFrame m sender x p l b0 b1 b2).party 1 = some p := by
  show (partyKindOf (PartyKind.code p.kind)).map
    (fun k => (⟨k, fromThree (byteOf 2 p.number) (byteOf 1 p.number) (byteOf 0 p.number)⟩ : PartyKey)) = some p
  rw [partyKindOf_code, fromThree_bytes]
  rfl

theorem takeRecount_other (other : x.toNat ≠ s.restart.station) :
    s.takeRecount (recountFrame m sender x p l b0 b1 b2) =
      if usableFact x.toNat l.toNat = true then s.learn p x.toNat l.toNat (b0 ++ b1 ++ b2) else s := by
  unfold Station.takeRecount
  rw [recountFrame_party]
  exact if_neg other

theorem takeRecount_own (own : x.toNat = s.restart.station) :
    s.takeRecount (recountFrame m sender x p l b0 b1 b2) =
      if s.rebuilds p l.toNat (b0 ++ b1 ++ b2) = true then s.rebuild p l.toNat (b0 ++ b1 ++ b2) else s := by
  unfold Station.takeRecount
  rw [recountFrame_party]
  exact if_pos own

/-- R5: a band serial is neither 0 nor 16 777 215. -/
theorem validSerial_iff (serial : BitVec 24) :
    (1 ≤ serial.toNat ∧ serial.toNat ≤ 16777214) ↔ serial ≠ 0 ∧ serial ≠ 16777215 := by
  have below := serial.isLt
  constructor
  · rintro ⟨low, high⟩
    constructor <;> rintro rfl <;> simp at low high
  · rintro ⟨low, high⟩
    have one : serial.toNat ≠ 0 := fun e => low (BitVec.eq_of_toNat_eq e)
    have top : serial.toNat ≠ 16777215 := fun e => high (BitVec.eq_of_toNat_eq e)
    omega

theorem rebuilds_iff {locker : Nat} {serial : BitVec 24} :
    s.rebuilds p locker serial = true ↔
      serial ≠ 0 ∧ serial ≠ 16777215 ∧ s.lockerState locker = some .orphan ∧ s.holdingOf p = none ∧
        s.claimOf p = none := by
  unfold Station.rebuilds
  rw [← and_assoc, ← validSerial_iff]
  simp only [Bool.and_eq_true, decide_eq_true_eq, Option.isNone_iff_eq_none, and_assoc]

end

/-- Settles O36, by the station named and, where it is this one, by the locker and the party. -/
theorem recountReceived : Obligations.RecountReceived := by
  intro sender x p l b0 b1 b2 s ready other serial cmd rebuilds rebuilt
  have effect {u : Station} {P : Station → Station → Prop}
      (taken : (s.station.take cmd).heardLine.takeRecount (recountFrame s.station.now sender x p l b0 b1 b2) = u)
      (settled : u.Settled) (q : P (s.station.take cmd) u) : Runs cmd s P :=
    runs_received rfl ready other taken settled q
  have same : (s.station.take cmd).heardLine.rebuilds p l.toNat serial = true ↔ rebuilds := rebuilds_iff
  refine ⟨fun elsewhere => ⟨fun usable => ?_, fun unusable => ?_⟩,
    fun own => ⟨fun ignored => ?_, fun due shut => ?_, fun due opened => ?_⟩⟩
  · exact effect ((takeRecount_other (s := (s.station.take cmd).heardLine) elsewhere).trans (if_pos (usableFact_iff.2 usable))) ready.settled rfl
  · exact effect ((takeRecount_other (s := (s.station.take cmd).heardLine) elsewhere).trans (if_neg (mt usableFact_iff.1 unusable))) ready.settled rfl
  · exact effect ((takeRecount_own (s := (s.station.take cmd).heardLine) own).trans (if_neg (mt same.1 ignored))) ready.settled rfl
  · have closed : (s.station.take cmd).heardLine.doorClosed l.toNat = true := shut
    refine effect ((takeRecount_own (s := (s.station.take cmd).heardLine) own).trans (if_pos (same.2 due))) ?_ ?_ <;> unfold Station.rebuild <;> rw [closed]
    · exact ready.settled
    · rfl
  · have ajar : (s.station.take cmd).heardLine.doorClosed l.toNat = false := opened
    refine effect ((takeRecount_own (s := (s.station.take cmd).heardLine) own).trans (if_pos (same.2 due))) ?_ ?_ <;> unfold Station.rebuild <;> rw [ajar]
    · exact ready.settled
    · rfl

/-! ### RECALL (R81, R82) -/

theorem clearRecount_split {s : Station} {before after : List DirectoryEntry} {e : DirectoryEntry}
    (cache : s.directory.cache = before ++ e :: after) (keys : (s.directory.cache.map (·.party)).Nodup) :
    s.clearRecount e.party = { s with directory.cache := before ++ { e with recountDue := false } :: after } := by
  unfold Station.clearRecount
  rw [cache] at keys ⊢
  rw [updateWhere_split (key := fun e : DirectoryEntry => e.party) keys]

theorem produceOne_rests {s : Station}
    (rests : 2 ≤ s.directory.recounts ∨ s.link.up = false ∨ ∀ e ∈ s.directory.cache, e.recountDue = false) :
    s.produceOne = none := by
  unfold Station.produceOne
  rcases rests with full | down | unmarked
  · exact if_neg (by rw [decide_eq_false (by omega), Bool.false_and]; exact Bool.false_ne_true)
  · exact if_neg (by rw [down, Bool.and_false]; exact Bool.false_ne_true)
  · have none : s.directory.cache.find? (·.recountDue) = .none :=
      List.find?_eq_none.2 fun e mem => by simp [unmarked e mem]
    rw [none]
    split <;> rfl

theorem produceOne_marked {s : Station} {before after : List DirectoryEntry} {e : DirectoryEntry}
    (few : s.directory.recounts < 2) (up : s.link.up = true) (cache : s.directory.cache = before ++ e :: after)
    (unmarked : ∀ d ∈ before, d.recountDue = false) (marked : e.recountDue = true) :
    s.produceOne =
      if e.serial = 0 then some (s.clearRecount e.party)
      else
        some
          { (s.clearRecount e.party).offer .recount (recountContent e.holder e.party e.locker e.serial) .directory .plain with
            directory.recounts := s.directory.recounts + 1 } := by
  have first : s.directory.cache.find? (·.recountDue) = some e := by
    rw [cache, List.find?_append, List.find?_eq_none.2 fun d mem => by simp [unmarked d mem]]
    simp [marked]
  unfold Station.produceOne
  rw [first]
  refine (if_pos (by rw [decide_eq_true few, up]; rfl)).trans ?_
  dsimp only
  split
  · rfl
  · rw [offer_frame]
    rfl

/-- R81: the entries that name the sender are marked. -/
theorem markRecount_eq (s : Station) (x : Nat) :
    s.markRecount x =
      { s with
        directory.cache := s.directory.cache.map fun e => if e.holder = x then { e with recountDue := true } else e } := by
  unfold Station.markRecount updateWhere
  simp only [decide_eq_true_eq]

/-- Settles O37: the marks that a RECALL sets, and a step of the production that follows. -/
theorem recallReceived : Obligations.RecallReceived := by
  refine ⟨fun sender content s ready => ⟨fun own => ?_, fun other room => ?_⟩, fun s =>
    ⟨fun rests => produce_rests s (produceOne_rests rests), fun before e after few up cache bounded keys unmarked marked => ?_⟩⟩
  · exact runs_liveFinish rfl ready.live (receive_own (s := s.station.take _) ready.stays own) ready.settled rfl
  · refine runs_received rfl ready other rfl ?_ ?_
    · have fits : s.station.link.queue.length + 2 ≤ 12 := room
      refine (produce_calm (((s.station.take _).heardLine).markRecount sender.toNat)
        (by show s.station.link.queue.length + (2 - _) ≤ 12; omega)).1.reports.trans ready.settled
    · show ((s.station.take _).heardLine.markRecount sender.toNat).produce = _
      rw [markRecount_eq]
      rfl
  · have one := produceOne_marked few up cache unmarked marked
    rw [clearRecount_split cache keys] at one
    refine ⟨fun unknown => ?_, fun known => ?_⟩
    · rw [if_pos unknown] at one
      exact produce_step s bounded one
    · rw [if_neg known] at one
      exact produce_step s bounded one

/-! ### TALLY (R114) -/

theorem fromTwo_toNat (a b : Byte) : (fromTwo a b).toNat = 256 * a.toNat + b.toNat := by
  have below := b.isLt
  show (a ++ b).toNat = _
  rw [BitVec.toNat_append, ← Nat.shiftLeft_add_eq_or_of_lt below, Nat.shiftLeft_eq]
  omega

theorem modeOf_known {mode : Byte} (known : mode.toNat ≤ 2) :
    modeOf mode = some (if mode = 0 then .unset else if mode = 1 then .recovering else .run) := by
  unfold modeOf
  split
  · rfl
  · split
    · rfl
    next notZero notOne =>
      have zero : mode.toNat ≠ 0 := fun e => notZero (BitVec.eq_of_toNat_eq e)
      have one : mode.toNat ≠ 1 := fun e => notOne (BitVec.eq_of_toNat_eq e)
      exact if_pos (BitVec.eq_of_toNat_eq (show mode.toNat = 2 by omega))

theorem modeOf_unknown {mode : Byte} (unknown : ¬mode.toNat ≤ 2) : modeOf mode = none := by
  have apart (k : Byte) (small : k.toNat ≤ 2) : mode ≠ k := fun e => unknown (e ▸ small)
  unfold modeOf
  rw [if_neg (apart 0 (by decide)), if_neg (apart 1 (by decide)), if_neg (apart 2 (by decide))]

section

variable {s : Station} {sender : BitVec 5} {zone std lrg q w1 w0 mode flags : Byte} {m : Moment}

/-- A TALLY as it is handed to the blocks. -/
def tallyFrame (m : Moment) (sender : BitVec 5) (zone std lrg q w1 w0 mode flags : Byte) : Received :=
  { moment := m, sender, content := [zone, std, lrg, q, w1, w0, mode, flags] }

/-- R114: the figures of a TALLY but its mode are in their ranges. -/
def tallyInRange (sender : BitVec 5) (zone std lrg q w1 w0 : Byte) : Bool :=
  1 ≤ sender.toNat && sender.toNat ≤ 27 && zone.toNat ≤ 7 && std.toNat + lrg.toNat ≤ 60 && q.toNat ≤ 16 &&
    ((fromTwo w1 w0).toNat ≤ 30600 || (fromTwo w1 w0).toNat == 65535)

theorem tallyInRange_iff :
    tallyInRange sender zone std lrg q w1 w0 = true ↔
      1 ≤ sender.toNat ∧ sender.toNat ≤ 27 ∧ zone.toNat ≤ 7 ∧ std.toNat + lrg.toNat ≤ 60 ∧ q.toNat ≤ 16 ∧
        (256 * w1.toNat + w0.toNat ≤ 30600 ∨ 256 * w1.toNat + w0.toNat = 65535) := by
  unfold tallyInRange
  rw [fromTwo_toNat]
  simp only [Bool.and_eq_true, Bool.or_eq_true, decide_eq_true_eq, beq_iff_eq, and_assoc]

theorem tallyFrame_neighbour :
    (tallyFrame m sender zone std lrg q w1 w0 mode flags).neighbour =
      if tallyInRange sender zone std lrg q w1 w0 = true then
        (modeOf mode).map fun mode =>
          { station := sender.toNat
            zone := zone.toNat
            freeStandard := std.toNat
            freeLarge := lrg.toNat
            queue := q.toNat
            wait := (fromTwo w1 w0).toNat
            mode
            driveHold := flags.getLsbD 0
            heardAt := m
            aged := false
            heard := true }
      else none := by
  have range : tallyInRange sender zone std lrg q w1 w0 =
      (1 ≤ sender.toNat && sender.toNat ≤ 27 && (8 == 8) && zone.toNat ≤ 7 && std.toNat + lrg.toNat ≤ 60 &&
        q.toNat ≤ 16 && ((fromTwo w1 w0).toNat ≤ 30600 || (fromTwo w1 w0).toNat == 65535)) := by
    unfold tallyInRange
    rw [show (8 == 8) = true from rfl, Bool.and_true]
  rw [range]
  rfl

theorem takeTally_ignored {f : Received} (ignored : f.neighbour = none) : s.takeTally f = s := by
  unfold Station.takeTally
  rw [ignored]

theorem takeTally_accepted {f : Received} {n : Neighbour} (accepted : f.neighbour = some n) :
    s.takeTally f =
      { s with
        tally.neighbours :=
          updateWhere (fun m => decide (m.station = n.station)) (fun _ => n) s.tally.neighbours } := by
  unfold Station.takeTally
  rw [accepted]

theorem neighbour_length {f : Received} (short : f.content.length ≠ 8) : f.neighbour = none := by
  unfold Received.neighbour
  refine if_neg ?_
  rw [show (f.content.length == 8) = false from beq_false_of_ne short]
  simp only [Bool.and_false, Bool.false_and]
  exact Bool.false_ne_true

end

/-- Settles O38, by the ranges of the figures. -/
theorem tallyReceived : Obligations.TallyReceived := by
  intro sender zone std lrg q w1 w0 mode flags s ready other wait cmd accepted
  have outcome : ¬accepted → (tallyFrame s.station.now sender zone std lrg q w1 w0 mode flags).neighbour = none := by
    intro refused
    rw [tallyFrame_neighbour]
    split
    next range =>
      obtain ⟨fromOne, upTo, zones, free, queue, waits⟩ := tallyInRange_iff.1 range
      have unknown : ¬mode.toNat ≤ 2 := fun known => refused ⟨fromOne, upTo, zones, free, queue, waits, known⟩
      rw [modeOf_unknown unknown]
      rfl
    · rfl
  refine ⟨fun ⟨fromOne, upTo, zones, free, queue, waits, known⟩ => ?_, fun refused => ?_, fun content length => ?_⟩
  · have range := tallyInRange_iff.2 ⟨fromOne, upTo, zones, free, queue, waits⟩
    have neighbour := tallyFrame_neighbour (m := s.station.now) (mode := mode) (flags := flags)
      (sender := sender) (zone := zone) (std := std) (lrg := lrg) (q := q) (w1 := w1) (w0 := w0)
    rw [if_pos range, modeOf_known known, fromTwo_toNat] at neighbour
    exact runs_received rfl ready other (takeTally_accepted (s := (s.station.take cmd).heardLine) neighbour)
      ready.settled rfl
  · exact runs_received rfl ready other (takeTally_ignored (s := (s.station.take cmd).heardLine) (outcome refused))
      ready.settled rfl
  · exact runs_received rfl ready other (takeTally_ignored (s := (s.station.take _).heardLine) (neighbour_length length))
      ready.settled rfl

end Sys2Proof.Machine

/-!
PROOFS. ORDERs that a test turns away (O39).
-/

namespace Sys2Proof.Machine

open Sys2Proof

variable {s : Station} {code : Byte} {o : OrderFrame}

/-! ### The tests of an ORDER (R179 to R181) -/

/-- Every ORDER row but ORDER_BAD_CODE takes the tests with the parameter bytes of its code, and those of the codes
3 to 8 are allowed in RUN only. -/
theorem order_tests {cmd : Instr} (row : orderRow cmd = some (code, o)) (good : ∀ c q, cmd ≠ .orderBadCode c q) :
    ∃ away coded named act, (3 ≤ code.toNat → code.toNat ≤ 8 → away = awayOutsideRun) ∧
      ∀ st, exec cmd st =
        performOrder cmd code o (Station.testOrder o (paramsNeeded code) away coded named act) st := by
  cases cmd <;> cases row
  case orderBadCode => exact absurd rfl (good _ _)
  case setupLockers => exact ⟨_, _, _, _, fun low => absurd low (by decide), fun _ => rfl⟩
  case setupCabins => exact ⟨_, _, _, _, fun low => absurd low (by decide), fun _ => rfl⟩
  case takeCountersSnapshot => exact ⟨_, _, _, _, fun _ high => absurd high (by decide), fun _ => rfl⟩
  case readCounters => exact ⟨_, _, _, _, fun _ high => absurd high (by decide), fun _ => rfl⟩
  case readLocker => exact ⟨_, _, _, _, fun _ high => absurd high (by decide), fun _ => rfl⟩
  case readCabins => exact ⟨_, _, _, _, fun _ high => absurd high (by decide), fun _ => rfl⟩
  case findParty => exact ⟨_, _, _, _, fun _ high => absurd high (by decide), fun _ => rfl⟩
  case restart => exact ⟨_, _, _, _, fun _ high => absurd high (by decide), fun _ => rfl⟩
  all_goals exact ⟨_, _, _, _, fun _ _ => rfl, fun _ => rfl⟩

section

variable {need : Nat} {away : Station → Option Answer} {coded : Bool} {named : Station → Bool}
  {act : Station → Station × Answer}

theorem testOrder_short (short : o.params.length < need) :
    s.testOrder o need away coded named act = (s, .plain .refusedRange) := if_pos short

theorem testOrder_away {a : Answer} (long : need ≤ o.params.length) (turned : away s = some a) :
    s.testOrder o need away coded named act = (s, a) := by
  unfold Station.testOrder
  refine (if_neg (Nat.not_lt.2 long)).trans ?_
  rw [turned]

theorem testOrder_uncoded (long : need ≤ o.params.length) (allowed : away s = none) (uncoded : coded = false) :
    s.testOrder o need away coded named act = (s, .plain .refusedRange) := by
  unfold Station.testOrder
  refine (if_neg (Nat.not_lt.2 long)).trans ?_
  rw [allowed, uncoded]
  rfl

theorem testOrder_unnamed (long : need ≤ o.params.length) (allowed : away s = none) (isCoded : coded = true)
    (unnamed : named s = false) : s.testOrder o need away coded named act = (s, .plain .refusedNoSuch) := by
  unfold Station.testOrder
  refine (if_neg (Nat.not_lt.2 long)).trans ?_
  rw [allowed, isCoded, unnamed]
  rfl

theorem testOrder_passes (long : need ≤ o.params.length) (allowed : away s = none) (isCoded : coded = true)
    (isNamed : named s = true) : s.testOrder o need away coded named act = act s := by
  unfold Station.testOrder
  refine (if_neg (Nat.not_lt.2 long)).trans ?_
  rw [allowed, isCoded, isNamed]
  rfl

end

theorem awayOutsideRun_run (run : s.restart.mode = .run) : awayOutsideRun s = none := if_pos run

theorem awayOutsideRun_other (other : s.restart.mode ≠ .run) : awayOutsideRun s = some (.plain .refusedState) :=
  if_neg other

theorem namesLocker_absent {n : Nat} (absent : n = 0 ∨ s.orders.setup.lockerCount < n) : namesLocker n s = false := by
  unfold namesLocker
  rw [Bool.and_eq_false_iff]
  exact absent.imp (fun e => decide_eq_false (by omega)) fun e => decide_eq_false (by omega)

theorem namesCabin_absent {n : Nat} (absent : n = 0 ∨ s.orders.setup.cabinCount < n) : namesCabin n s = false := by
  unfold namesCabin
  rw [Bool.and_eq_false_iff]
  exact absent.imp (fun e => decide_eq_false (by omega)) fun e => decide_eq_false (by omega)

/-! ### The rows of an ORDER that has no effect but its answer -/

section

variable {c : Instr} {st : State} {take : Station → Station × Answer}

/-- R132, R179: an ORDER for another station, or not from a console. -/
theorem runs_ignored (meaning : exec c st = performOrder c code o take st) (ready : st.station.Ready)
    (elsewhere : o.sender.toNat < 28 ∨ (o.target.toNat ≠ 0 ∧ o.target.toNat ≠ st.station.restart.station)) :
    Runs c st fun a t => t = a.heardLine := by
  refine runs_liveFinish (u := (st.station.take c).heardLine) meaning ready.live ?_ ready.settled rfl
  unfold Station.orderReceived
  rw [frameHeard_stays (st.station.take c) ready.stays]
  dsimp only
  split
  · rfl
  next here => exact if_pos (elsewhere.resolve_right here)

/-- R190: an ORDER that arrives while a RESTART waits. -/
theorem runs_waiting (meaning : exec c st = performOrder c code o take st) (ready : st.station.Ready)
    (console : 28 ≤ o.sender.toNat) (target : o.target.toNat = 0 ∨ o.target.toNat = st.station.restart.station)
    (waits : st.station.orders.restartWait.isSome = true) (room : st.station.Room 1) :
    Runs c st fun a t => t = a.heardLine.reported o code 2 (reportPage code o 0) [] := by
  refine runs_liveFinish meaning ready.live ?_
    ((reported_reports (st.station.take c).heardLine o _ _ _ _ room).trans ready.settled) rfl
  unfold Station.orderReceived
  rw [frameHeard_stays (st.station.take c) ready.stays]
  refine (if_neg ?_).trans ((if_neg (Nat.not_lt.2 console)).trans (if_pos waits))
  exact fun ⟨all, own⟩ => target.elim all own

/-- A taken ORDER with one REPORT as its whole effect. -/
theorem runs_refused {result : OrderResult} (meaning : exec c st = performOrder c code o take st)
    (ready : st.station.Ready) (takes : st.station.Takes o) (room : st.station.Room 1)
    (refused : take (st.station.take c).heardLine = ((st.station.take c).heardLine, .plain result)) :
    Runs c st fun a t => t = a.heardLine.reported o code result.code (reportPage code o 0) [] := by
  refine runs_liveFinish meaning ready.live ?_
    ((reported_reports (st.station.take c).heardLine o _ _ _ _ room).trans ready.settled) rfl
  rw [orderReceived_of_takes (st.station.take c) ready.stays ⟨takes.console, takes.target, takes.waits⟩, refused]
  rfl

/-- A taken ORDER that draws no answer and has no effect. -/
theorem runs_silent (meaning : exec c st = performOrder c code o take st) (ready : st.station.Ready)
    (takes : st.station.Takes o)
    (silent : take (st.station.take c).heardLine = ((st.station.take c).heardLine, .silent)) :
    Runs c st fun a t => t = a.heardLine := by
  refine runs_liveFinish (u := (st.station.take c).heardLine) meaning ready.live ?_ ready.settled rfl
  rw [orderReceived_of_takes (st.station.take c) ready.stays ⟨takes.console, takes.target, takes.waits⟩, silent]
  rfl

theorem reportPage_unpaged (unpaged : code ≠ 9 ∧ code ≠ 11) : reportPage code o 0 = 0 := if_neg (not_or.2 unpaged)

/-- R180: in RUN, an ORDER whose coded parameter is not coded. -/
theorem runs_uncoded {need : Nat} {coded : Bool} {named : Station → Bool} {act : Station → Station × Answer}
    (meaning : exec c st = performOrder c code o (Station.testOrder o need awayOutsideRun coded named act) st)
    (unpaged : code ≠ 9 ∧ code ≠ 11) (ready : st.station.Ready) (takes : st.station.Takes o)
    (room : st.station.Room 1) (run : st.station.restart.mode = .run) (long : need ≤ o.params.length)
    (uncoded : coded = false) : Runs c st fun a t => t = a.heardLine.reported o code 3 0 [] := by
  have refused := runs_refused meaning ready takes room (testOrder_uncoded long (awayOutsideRun_run run) uncoded)
  rw [reportPage_unpaged unpaged] at refused
  exact refused

/-- R180: in RUN, an ORDER that names what does not exist. -/
theorem runs_unnamed {need : Nat} {coded : Bool} {named : Station → Bool} {act : Station → Station × Answer}
    (meaning : exec c st = performOrder c code o (Station.testOrder o need awayOutsideRun coded named act) st)
    (unpaged : code ≠ 9 ∧ code ≠ 11) (ready : st.station.Ready) (takes : st.station.Takes o)
    (room : st.station.Room 1) (run : st.station.restart.mode = .run) (long : need ≤ o.params.length)
    (isCoded : coded = true) (unnamed : named (st.station.take c).heardLine = false) :
    Runs c st fun a t => t = a.heardLine.reported o code 6 0 [] := by
  have refused := runs_refused meaning ready takes room
    (testOrder_unnamed long (awayOutsideRun_run run) isCoded unnamed)
  rw [reportPage_unpaged unpaged] at refused
  exact refused

end

theorem byte_ne {b k : Byte} (above : k.toNat < b.toNat) : b ≠ k := fun e => Nat.lt_irrefl _ (e ▸ above)

theorem paramByte_zero {n : Byte} {rest : List Byte} (params : o.params = n :: rest) : paramByte o 0 = n := by
  unfold paramByte
  rw [params]
  rfl

theorem paramByte_one {n b : Byte} {rest : List Byte} (params : o.params = n :: b :: rest) : paramByte o 1 = b := by
  unfold paramByte
  rw [params]
  rfl

theorem params_two {n b : Byte} {rest : List Byte} (params : o.params = n :: b :: rest) : 2 ≤ o.params.length := by
  rw [params]
  exact Nat.le_add_left 2 rest.length

theorem params_one {n : Byte} {rest : List Byte} (params : o.params = n :: rest) : 1 ≤ o.params.length := by
  rw [params]
  exact Nat.le_add_left 1 rest.length

/-- R189: FIND PARTY names no party in UNSET, or by a kind byte that is not coded. -/
theorem findParty_silent {st : State} {k : Byte} {rest : List Byte} (ready : st.station.Ready)
    (takes : st.station.Takes o) (params : o.params = k :: rest) (long : 4 ≤ o.params.length)
    (silent : st.station.restart.mode = .unset ∨ 2 ≤ k.toNat) : Runs (.findParty o) st fun a t => t = a.heardLine := by
  refine runs_silent rfl ready takes ?_
  by_cases unset : st.station.restart.mode = .unset
  · exact testOrder_away long (if_pos unset)
  · have unknown : orderParty o = none := by
      unfold orderParty
      rw [paramByte_zero params]
      have kind : 2 ≤ k.toNat := silent.resolve_left unset
      have zero : k ≠ 0 := byte_ne (show (0 : Byte).toNat < k.toNat from by simp; omega)
      have one : k ≠ 1 := byte_ne (show (1 : Byte).toNat < k.toNat from by simp; omega)
      rw [show partyKindOf k = none from (if_neg zero).trans (if_neg one)]
      rfl
    rw [testOrder_passes long (if_neg unset) rfl rfl]
    unfold Station.takeFindParty
    rw [unknown]
    rfl

section

variable {cmd : Instr} {st : State}

/-- R180: a service byte above 1, or an object byte above 2. -/
theorem order_uncoded {n b : Byte} {rest : List Byte} (row : orderRow cmd = some (code, o)) (ready : st.station.Ready)
    (takes : st.station.Takes o) (room : st.station.Room 1) (run : st.station.restart.mode = .run)
    (params : o.params = n :: b :: rest)
    (out : (cmd ∈ [.lockerServiceOff o, .lockerServiceOn o, .cabinServiceOff o, .cabinServiceOn o] ∧ 2 ≤ b.toNat) ∨
      (cmd ∈ [.clearFaultLocker o, .clearFaultCabin o, .clearFaultGroup o] ∧ 3 ≤ n.toNat)) :
    Runs cmd st fun a t => t = a.heardLine.reported o code 3 0 [] := by
  have long := params_two params
  have first := paramByte_zero params
  have second := paramByte_one params
  rcases out with ⟨mem, high⟩ | ⟨mem, high⟩ <;> simp only [List.mem_cons, List.not_mem_nil, or_false] at mem
  · have zero : decide (paramByte o 1 = 0) = false := decide_eq_false (second ▸ byte_ne (by simp; omega))
    have one : decide (paramByte o 1 = 1) = false := decide_eq_false (second ▸ byte_ne (by simp; omega))
    rcases mem with rfl | rfl | rfl | rfl <;> cases row
    · exact runs_uncoded rfl (by decide) ready takes room run long zero
    · exact runs_uncoded rfl (by decide) ready takes room run long one
    · exact runs_uncoded rfl (by decide) ready takes room run long zero
    · exact runs_uncoded rfl (by decide) ready takes room run long one
  · have differs (k : Byte) (small : k.toNat ≤ 2) : decide (paramByte o 0 = k) = false :=
      decide_eq_false (first ▸ byte_ne (by omega))
    rcases mem with rfl | rfl | rfl <;> cases row
    · exact runs_uncoded rfl (by decide) ready takes room run long (differs 0 (by decide))
    · exact runs_uncoded rfl (by decide) ready takes room run long (differs 1 (by decide))
    · exact runs_uncoded rfl (by decide) ready takes room run long (differs 2 (by decide))

/-- R180: a locker that is not there. -/
theorem order_noLocker {n : Byte} {rest : List Byte} (row : orderRow cmd = some (code, o)) (ready : st.station.Ready)
    (takes : st.station.Takes o) (room : st.station.Room 1) (run : st.station.restart.mode = .run)
    (absent : n.toNat = 0 ∨ st.station.orders.setup.lockerCount < n.toNat)
    (names : (o.params = n :: rest ∧ cmd ∈ [.openLocker o, .endHolding o]) ∨
      (o.params = n :: 0 :: rest ∧ cmd = .lockerServiceOff o) ∨
      (o.params = n :: 1 :: rest ∧ cmd = .lockerServiceOn o) ∨
      (o.params = 0 :: n :: rest ∧ cmd = .clearFaultLocker o)) :
    Runs cmd st fun a t => t = a.heardLine.reported o code 6 0 [] := by
  have unnamed : namesLocker n.toNat (st.station.take cmd).heardLine = false := namesLocker_absent absent
  rcases names with ⟨params, mem⟩ | ⟨params, rfl⟩ | ⟨params, rfl⟩ | ⟨params, rfl⟩
  · simp only [List.mem_cons, List.not_mem_nil, or_false] at mem
    rcases mem with rfl | rfl <;> cases row <;>
      exact runs_unnamed rfl (by decide) ready takes room run (params_one params) rfl
        ((paramByte_zero params).symm ▸ unnamed)
  · cases row
    exact runs_unnamed rfl (by decide) ready takes room run (params_two params) (decide_eq_true (paramByte_one params))
      ((paramByte_zero params).symm ▸ unnamed)
  · cases row
    exact runs_unnamed rfl (by decide) ready takes room run (params_two params) (decide_eq_true (paramByte_one params))
      ((paramByte_zero params).symm ▸ unnamed)
  · cases row
    exact runs_unnamed rfl (by decide) ready takes room run (params_two params) (decide_eq_true (paramByte_zero params))
      ((paramByte_one params).symm ▸ unnamed)

/-- R180: a cabin that is not there. -/
theorem order_noCabin {n : Byte} {rest : List Byte} (row : orderRow cmd = some (code, o)) (ready : st.station.Ready)
    (takes : st.station.Takes o) (room : st.station.Room 1) (run : st.station.restart.mode = .run)
    (absent : n.toNat = 0 ∨ st.station.orders.setup.cabinCount < n.toNat)
    (names : (o.params = n :: 0 :: rest ∧ cmd = .cabinServiceOff o) ∨
      (o.params = n :: 1 :: rest ∧ cmd = .cabinServiceOn o) ∨
      (o.params = 1 :: n :: rest ∧ cmd = .clearFaultCabin o)) :
    Runs cmd st fun a t => t = a.heardLine.reported o code 6 0 [] := by
  have unnamed : namesCabin n.toNat (st.station.take cmd).heardLine = false := namesCabin_absent absent
  rcases names with ⟨params, rfl⟩ | ⟨params, rfl⟩ | ⟨params, rfl⟩ <;> cases row
  · exact runs_unnamed rfl (by decide) ready takes room run (params_two params) (decide_eq_true (paramByte_one params))
      ((paramByte_zero params).symm ▸ unnamed)
  · exact runs_unnamed rfl (by decide) ready takes room run (params_two params) (decide_eq_true (paramByte_one params))
      ((paramByte_zero params).symm ▸ unnamed)
  · exact runs_unnamed rfl (by decide) ready takes room run (params_two params) (decide_eq_true (paramByte_zero params))
      ((paramByte_one params).symm ▸ unnamed)

end

/-- Settles O39, test by test. -/
theorem ordersTurnedAway : Obligations.OrdersTurnedAway := by
  intro cmd code o s row ready
  obtain ⟨take, meaning⟩ := order_meaning row
  refine ⟨runs_ignored (meaning s) ready, fun console target waits room => runs_waiting (meaning s) ready console target waits room,
    fun takes room => ⟨fun low high good short => ?_, fun bad out => ?_, fun mode low high good long => ?_,
      fun run => ⟨fun n b rest params out => order_uncoded row ready takes room run params out,
        fun n => ⟨fun absent ⟨rest, names⟩ => order_noLocker row ready takes room run absent names,
          fun absent ⟨rest, names⟩ => order_noCabin row ready takes room run absent names⟩⟩,
      fun find k rest params long silent => ?_⟩⟩
  · obtain ⟨_, _, _, _, _, tests⟩ := order_tests row good
    exact runs_refused (tests s) ready takes room (result := .refusedRange) (testOrder_short short)
  · subst bad
    have unpaged : code ≠ 9 ∧ code ≠ 11 := ⟨fun e => out (e ▸ by decide), fun e => out (e ▸ by decide)⟩
    have refused := runs_refused (st := s) (c := .orderBadCode code o) rfl ready takes room (result := .refusedNoSuch)
      (if_neg out)
    rw [reportPage_unpaged unpaged] at refused
    exact refused
  · obtain ⟨away, coded, named, act, allowed, tests⟩ := order_tests row good
    have unpaged : code ≠ 9 ∧ code ≠ 11 :=
      ⟨fun e => absurd high (e ▸ by decide), fun e => absurd high (e ▸ by decide)⟩
    have refused := runs_refused (tests s) ready takes room (result := .refusedState)
      (testOrder_away long (allowed low high ▸ awayOutsideRun_other mode))
    rw [reportPage_unpaged unpaged] at refused
    exact refused
  · subst find
    exact findParty_silent ready takes params long silent

end Sys2Proof.Machine

/-!
PROOFS. The setup orders (O40, O41), SET DAY and READ COUNTERS (O42).
-/

namespace Sys2Proof.Machine

open Sys2Proof

section

variable {s : Station} {o : OrderFrame}

/-! ### The entry to RECOVERING (R193) -/

theorem newLocker_eq (n : Nat) : s.newLocker n = s.classifies n := by
  unfold Station.newLocker Station.classifies Station.classified
  simp only [Bool.and_eq_true]

theorem newCabin_eq (c : Nat) : s.newCabin c = s.creates c := by
  unfold Station.newCabin Station.creates
  simp only [decide_eq_true_eq]

theorem enterRecovering_eq : s.enterRecovering = s.recovered := by
  unfold Station.enterRecovering Station.recovered
  simp only [newLocker_eq, newCabin_eq]
  rfl

/-- A frame that finds room takes at most one place of the queue. -/
theorem offer_fits (kind : Kind) (content : List Byte) (owner : Owner) (role : Role) (room : s.link.queue.length < 12) :
    (s.offer kind content owner role).link.queue.length ≤ s.link.queue.length + 1 := by
  unfold Station.offer
  dsimp only
  split
  · exact Nat.le_succ _
  · split
    · rw [insertFrame_length]
      exact Nat.succ_le_succ (List.length_filter_le _ _)
    · exact (insertFrame_length _ _).le

/-- R182, R197: the RECALL of the entry finds its place, and leaves one for the REPORT of the order. -/
theorem recovered_link (room : s.Room 2) (settled : s.Settled) : s.recovered.Settled ∧ s.recovered.Room 1 := by
  have fits : s.link.queue.length + 2 ≤ 12 := room
  unfold Station.recovered
  dsimp only
  generalize entering : (Station.compareLatches _ _) = entered
  have link : entered.link = s.link := by
    rw [← entering, compareLatches_link]
  have few : entered.link.queue.length < 12 := by
    rw [link]
    omega
  constructor
  · exact (offer_reports entered _ _ _ _ (.inr (.inl rfl)) few).trans ((congrArg Link.reports link).trans settled)
  · have length := offer_fits .recall [] .restartControl .plain few
    rw [link] at length
    show (entered.offer .recall [] .restartControl .plain).link.queue.length + 1 ≤ 12
    omega

/-! ### The setup orders (R183, R184) -/

theorem setupAway_refused {closed : Station → Bool} (refused : s.restart.mode ≠ .unset ∨ closed s = true) :
    setupAway closed s = some (.plain .refusedSetupClosed) :=
  if_neg fun ⟨unset, opened⟩ => by
    rcases refused with other | shut
    · exact other unset
    · rw [opened] at shut
      exact Bool.false_ne_true shut

theorem setupAway_allowed {closed : Station → Bool} (unset : s.restart.mode = .unset) (opened : closed s = false) :
    setupAway closed s = none := if_pos ⟨unset, opened⟩

theorem setupAccepted_first (opened : s.orders.lockersLockClosed = false ∨ s.orders.cabinsLockClosed = false) :
    s.setupAccepted = s :=
  if_neg fun both => by
    obtain ⟨lockers, cabins⟩ := Bool.and_eq_true_iff.1 both
    rcases opened with e | e
    · rw [e] at lockers
      exact Bool.false_ne_true lockers
    · rw [e] at cabins
      exact Bool.false_ne_true cabins

theorem setupAccepted_second (lockers : s.orders.lockersLockClosed = true) (cabins : s.orders.cabinsLockClosed = true) :
    s.setupAccepted = s.recovered :=
  (if_pos (Bool.and_eq_true_iff.2 ⟨lockers, cabins⟩)).trans enterRecovering_eq

/-- R183: the fields of SETUP LOCKERS, clamped. -/
theorem lockersTaken_eq {n large day s1 s0 door pull hold filter : Byte} {rest : List Byte}
    (params : o.params = [n, large, day, s1, s0, door, pull, hold, filter] ++ rest) (r : Setup) :
    lockersTaken o r =
      { r with
        lockerCount := min n.toNat 60
        largeCount := min large.toNat (min n.toNat 60)
        dayCode := day
        sessionLimit :=
          if 256 * s1.toNat + s0.toNat = 0 then 0 else max 30 (min (256 * s1.toNat + s0.toNat) 720)
        doorWait := if door.toNat = 0 then 15 else max 5 (min door.toNat 30)
        pullTime := max 20 (min pull.toNat 200)
        holdDuty := max 10 (min hold.toNat 60)
        filterInterval :=
          if filter.toNat ≤ 1 then 1 else if filter.toNat ≤ 3 then 2 else if filter.toNat ≤ 7 then 4 else 8 } := by
  have param (i : Nat) : paramByte o i = ([n, large, day, s1, s0, door, pull, hold, filter] ++ rest)[i]?.getD 0 := by
    unfold paramByte
    rw [params]
  simp only [lockersTaken, param, sessionTaken, doorWaitTaken, filterTaken, clamp, fromTwo_toNat, List.cons_append,
    List.getElem?_cons_zero, List.getElem?_cons_succ, Option.getD_some, Nat.min_comm]

/-- R184: the fields of SETUP CABINS, clamped. -/
theorem cabinsTaken_eq {n limit grace vacate penalty margin d1 d0 : Byte} {rest : List Byte}
    (params : o.params = [n, limit, grace, vacate, penalty, margin, d1, d0] ++ rest) (r : Setup) :
    cabinsTaken o r =
      { r with
        cabinCount := min n.toNat 8
        cabinLimit := max 5 (min limit.toNat 30)
        grace := max 15 (min grace.toNat 120)
        vacateTime := if vacate.toNat = 0 then 10 else max 5 (min vacate.toNat 30)
        walkPenalty := penalty.toNat
        margin := margin.toNat
        initialDwell := max 30 (min (256 * d1.toNat + d0.toNat) 1800) } := by
  have param (i : Nat) : paramByte o i = ([n, limit, grace, vacate, penalty, margin, d1, d0] ++ rest)[i]?.getD 0 := by
    unfold paramByte
    rw [params]
  simp only [cabinsTaken, param, vacateTaken, clamp, fromTwo_toNat, List.cons_append,
    List.getElem?_cons_zero, List.getElem?_cons_succ, Option.getD_some, Nat.min_comm]

end

/-- Settles O40, by the locks and the locker count. -/
theorem setupLockers : Obligations.SetupLockers := by
  intro o n large day s1 s0 door pull hold filter rest s ready takes room params limit accepted
  have fits : s.station.link.queue.length + 2 ≤ 12 := room
  have long : 9 ≤ o.params.length := by
    rw [params]
    exact Nat.le_add_left 9 rest.length
  have count : paramByte o 0 = n := paramByte_zero params
  have one : s.station.Room 1 := Nat.le_of_succ_le fits
  refine ⟨fun refused => ?_, fun unset opened => ⟨fun zero => ?_, fun some first => ?_, fun some second => ?_⟩⟩
  · exact runs_order rfl (by decide) ready takes
      (testOrder_away (s := (s.station.take _).heardLine) long (setupAway_refused refused)) ready.settled one rfl
  all_goals
    have passes (act : Station → Station × Answer) :=
      testOrder_passes (s := (s.station.take (.setupLockers o)).heardLine)
        (away := setupAway (·.orders.lockersLockClosed)) (named := namesNothing) (act := act) long
        (setupAway_allowed unset opened) rfl rfl
  · refine runs_order rfl (by decide) ready takes ((passes _).trans (if_pos ?_)) ready.settled one rfl
    rw [count]
    exact zero
  all_goals
    have taken : (s.station.take (.setupLockers o)).heardLine.takeSetupLockers o =
        Station.done (accepted (s.station.take (.setupLockers o))).setupAccepted := by
      unfold Station.takeSetupLockers
      rw [lockersTaken_eq params]
      refine if_neg ?_
      rw [count]
      exact Nat.pos_iff_ne_zero.1 some
  · rw [setupAccepted_first (s := accepted (s.station.take (.setupLockers o))) (.inr first)] at taken
    exact runs_order rfl (by decide) ready takes ((passes _).trans taken) ready.settled one rfl
  · rw [setupAccepted_second (s := accepted (s.station.take (.setupLockers o))) rfl second] at taken
    obtain ⟨settled, left⟩ := recovered_link (s := accepted (s.station.take (.setupLockers o))) fits ready.settled
    exact runs_order rfl (by decide) ready takes ((passes _).trans taken) settled left rfl

/-- Settles O41, by the locks. -/
theorem setupCabins : Obligations.SetupCabins := by
  intro o n limit grace vacate penalty margin d1 d0 rest s ready takes room params dwell accepted
  have fits : s.station.link.queue.length + 2 ≤ 12 := room
  have long : 8 ≤ o.params.length := by
    rw [params]
    exact Nat.le_add_left 8 rest.length
  have one : s.station.Room 1 := Nat.le_of_succ_le fits
  have taken : (s.station.take (.setupCabins o)).heardLine.takeSetupCabins o =
      Station.done (accepted (s.station.take (.setupCabins o))).setupAccepted := by
    unfold Station.takeSetupCabins
    rw [cabinsTaken_eq params]
    rfl
  have passes (unset : s.station.restart.mode = .unset) (opened : s.station.orders.cabinsLockClosed = false)
      (act : Station → Station × Answer) :=
    testOrder_passes (s := (s.station.take (.setupCabins o)).heardLine)
      (away := setupAway (·.orders.cabinsLockClosed)) (named := namesNothing) (act := act) long
      (setupAway_allowed unset opened) rfl rfl
  refine ⟨fun refused => ?_, fun unset opened first => ?_, fun unset opened second => ?_⟩
  · exact runs_order rfl (by decide) ready takes
      (testOrder_away (s := (s.station.take _).heardLine) long (setupAway_refused refused)) ready.settled one rfl
  · rw [setupAccepted_first (s := accepted (s.station.take (.setupCabins o))) (.inl first)] at taken
    exact runs_order rfl (by decide) ready takes ((passes unset opened _).trans taken) ready.settled one rfl
  · rw [setupAccepted_second (s := accepted (s.station.take (.setupCabins o))) second rfl] at taken
    obtain ⟨settled, left⟩ := recovered_link (s := accepted (s.station.take (.setupCabins o))) fits ready.settled
    exact runs_order rfl (by decide) ready takes ((passes unset opened _).trans taken) settled left rfl

/-! ### An answer in parts (R182) -/

section

variable {s : Station} {o : OrderFrame} {code : Byte}

theorem queueParts_settled (data : List (List Byte)) (part : Nat) (s : Station)
    (room : s.link.queue.length + data.length ≤ 12) (settled : s.Settled) :
    (Station.queueParts code o part data s).Settled := by
  induction data generalizing part s with
  | nil => exact settled
  | cons d rest ih =>
    simp only [List.length_cons] at room
    have few : s.link.queue.length < 12 := by omega
    have length := offer_fits (s := s) .report
      (reportContent (consoleOf o) code OrderResult.data.code (reportPage code o part) d) .orderUnit .plain few
    refine ih (part + 1) (s.queueReport code o .data part d) ?_ ?_
    · unfold Station.queueReport
      omega
    · exact (offer_reports s _ _ _ _ (.inr (.inr rfl)) few).trans settled

/-- A taken ORDER whose answer is in parts, with room for their REPORTs. -/
theorem runs_parts {c : Instr} {take : Station → Station × Answer} {st : State} {P : Station → Station → Prop}
    {u : Station} {data : List (List Byte)} (meaning : exec c st = performOrder c code o take st)
    (ready : st.station.Ready) (takes : st.station.Takes o)
    (effect : take (st.station.take c).heardLine = (u, .parts data)) (settled : u.Settled) (room : u.Room data.length)
    (p : P (st.station.take c) (Station.queueParts code o 0 data u)) : Runs c st P := by
  refine runs_liveFinish meaning ready.live ?_ (queueParts_settled data 0 u room settled) p
  rw [orderReceived_of_takes (st.station.take c) ready.stays ⟨takes.console, takes.target, takes.waits⟩, effect]
  rfl

/-- R182: a part is one REPORT with its page. -/
theorem queueReport_page {part : Nat} {page : Byte} (data : List Byte) (paged : reportPage code o part = page) :
    s.queueReport code o .data part data = s.reported o code 1 page data := by
  unfold Station.queueReport
  rw [paged]
  rfl

theorem reportPage_paged {x : Byte} {rest : List Byte} {part : Nat} (paged : code = 9 ∨ code = 11)
    (params : o.params = x :: rest) (short : 4 * x.toNat + part ≤ 255) :
    reportPage code o part = oneByte (4 * x.toNat + part) := by
  have first : o.params[0]? = some x := by
    rw [params]
    rfl
  unfold reportPage
  rw [if_pos paged, first]
  exact if_pos short

end

/-! ### SET DAY and READ COUNTERS (R185, R186) -/

theorem driveStatus_eq (latches : BitVec 4) (holdDown : Bool) :
    driveStatus latches holdDown = latches.setWidth 8 + if holdDown then 16 else 0 := by
  have every : ∀ (l : BitVec 4) (b : Bool), driveStatus l b = l.setWidth 8 + if b then 16 else 0 := by decide
  exact every latches holdDown

theorem startCause_code (c : StartCause) :
    c.code = match c with
      | .powerOn => 0
      | .supplyLow => 1
      | .resetLine => 2
      | .ordered => 3
      | .retentionBad => 4 := by
  cases c <;> rfl

/-- Settles O42, by the mode, and by the page. -/
theorem dayAndCounters : Obligations.DayAndCounters := by
  intro o x rest s ready takes room params
  have fits : s.station.link.queue.length + 2 ≤ 12 := room
  have long : 1 ≤ o.params.length := params_one params
  have first : paramByte o 0 = x := paramByte_zero params
  have one : s.station.Room 1 := Nat.le_of_succ_le fits
  have page (part : Nat) (short : 4 * x.toNat + part ≤ 255) : reportPage 9 o part = oneByte (4 * x.toNat + part) :=
    reportPage_paged (.inl rfl) params short
  refine ⟨fun run => ?_, fun mode => ?_, fun zero => ?_, fun isOne => ?_, fun two => ?_, fun high => ?_⟩
  · refine runs_order rfl (by decide) ready takes (testOrder_passes (s := (s.station.take _).heardLine)
      (act := Station.takeSetDay o) (named := namesNothing) long (awayOutsideRun_run run) rfl rfl) ready.settled one ?_
    rw [first]
    rfl
  · exact runs_order rfl (by decide) ready takes
      (testOrder_away (s := (s.station.take _).heardLine) long (awayOutsideRun_other mode)) ready.settled one rfl
  · subst zero
    refine runs_parts rfl ready takes (testOrder_passes (s := (s.station.take _).heardLine)
      (act := Station.takeSnapshot) (named := namesNothing) long rfl (decide_eq_true first) rfl) ready.settled fits ?_
    unfold Station.queueParts Station.queueParts Station.queueParts
    rw [queueReport_page _ (page 0 (by decide)), queueReport_page _ (page 1 (by decide))]
    rfl
  · subst isOne
    refine runs_parts rfl ready takes ((testOrder_passes (s := (s.station.take _).heardLine)
      (act := Station.readCounterPage (paramByte o 0)) (named := namesNothing) long rfl ?_ rfl).trans (if_pos first))
      ready.settled fits ?_
    · rw [first]
      rfl
    unfold Station.queueParts Station.queueParts Station.queueParts
    rw [queueReport_page _ (page 0 (by decide)), queueReport_page _ (page 1 (by decide))]
    rfl
  · subst two
    refine runs_parts rfl ready takes ((testOrder_passes (s := (s.station.take _).heardLine)
      (act := Station.readCounterPage (paramByte o 0)) (named := namesNothing) long rfl ?_ rfl).trans
      (if_neg (by rw [first]; decide))) ready.settled fits ?_
    · rw [first]
      rfl
    unfold Station.queueParts Station.queueParts Station.queueParts
    rw [queueReport_page _ (page 0 (by decide)), queueReport_page _ (page 1 (by decide)), driveStatus_eq, startCause_code]
    rfl
  · refine runs_refused rfl ready takes one (result := .refusedRange)
      (testOrder_uncoded (s := (s.station.take _).heardLine) (named := namesNothing) long rfl ?_)
    rw [first, decide_eq_false (byte_ne (by simp; omega)), decide_eq_false (byte_ne (by simp; omega))]
    rfl

end Sys2Proof.Machine

/-!
PROOFS. READ LOCKER, READ CABINS and FIND PARTY (O43).
-/

namespace Sys2Proof.Machine

open Sys2Proof

/-! ### Codes in bytes (R187 to R189) -/

theorem holdingFlags_eq (h : Holding) :
    holdingFlags h =
      (if h.overstay then 1 else 0) + (if h.double then 2 else 0) + (if h.unannounced then 4 else 0) +
        (if h.recovered then 8 else 0) + (if h.forced then 16 else 0) := by
  have every : ∀ a b c d e : Bool,
      bitAt 0 a ||| bitAt 1 b ||| bitAt 2 c ||| bitAt 3 d ||| bitAt 4 e =
        (if a then 1 else 0) + (if b then 2 else 0) + (if c then 4 else 0) + (if d then 8 else 0) +
          (if e then 16 else 0) := by decide
  exact every _ _ _ _ _

theorem levelsByte_eq (door bolt forced : Bool) :
    levelsByte (!door) (!bolt) forced =
      (if door then 0 else 1) + (if bolt then 0 else 2) + (if forced then 4 else 0) := by
  have every : ∀ a b c : Bool, levelsByte (!a) (!b) c =
      (if a then 0 else 1) + (if b then 0 else 2) + (if c then 4 else 0) := by decide
  exact every _ _ _

theorem claimStateCode_eq (state : ClaimState) :
    claimStateCode state = match state with
      | .queued => 1
      | .sent _ => 2 := by
  cases state <;> rfl

theorem cabinFlags_eq (c : Cabin) :
    cabinFlags c = (if c.overstay then 1 else 0) + (if c.latchMoving then 2 else 0) := by
  have every : ∀ a b : Bool, bitAt 0 a ||| bitAt 1 b = (if a then 1 else 0) + (if b then 2 else 0) := by decide
  exact every _ _

/-- The three bytes that a read gives of an output's request: its phase, its attempt and the output's level. -/
def driveCodes (s : Station) (output : Nat) : Byte × Byte × Byte :=
  (phaseCode (s.request? output), attemptCode (s.request? output), (s.outputLevel output).code)

theorem oneByte_page {x : Byte} (part : Nat) (small : x.toNat ≤ 24) (few : part ≤ 1) :
    oneByte (4 * x.toNat + part) = 4 * x + oneByte part := by
  refine BitVec.eq_of_toNat_eq ?_
  rw [oneByte_toNat (by omega), BitVec.toNat_add, BitVec.toNat_mul, oneByte_toNat (by omega)]
  show _ = ((4 * x.toNat) % 256 + part) % 256
  omega

/-! ### What each read comes to -/

section

variable {s : Station} {o : OrderFrame} {x : Byte} {rest : List Byte}

theorem awayInUnset_unset (unset : s.restart.mode = .unset) : awayInUnset s = some (.plain .refusedState) := if_pos unset

theorem awayInUnset_other (other : s.restart.mode ≠ .unset) : awayInUnset s = none := if_neg other

theorem namesLocker_present {n : Nat} (low : 1 ≤ n) (high : n ≤ s.orders.setup.lockerCount) : namesLocker n s = true :=
  Bool.and_eq_true_iff.2 ⟨decide_eq_true low, decide_eq_true high⟩

theorem namesCabin_present {n : Nat} (low : 1 ≤ n) (high : n ≤ s.orders.setup.cabinCount) : namesCabin n s = true :=
  Bool.and_eq_true_iff.2 ⟨decide_eq_true low, decide_eq_true high⟩

theorem takeReadLocker_found {n : Nat} {l : Locker} (locker : s.locker? n = some l) :
    s.takeReadLocker n = (s, .parts [s.lockerPart0 l, s.lockerPart1 l, s.lockerPart2 l]) := by
  unfold Station.takeReadLocker
  rw [locker]

theorem takeReadCabins_cabin {n : Nat} {c : Cabin} (low : 1 ≤ n) (high : n ≤ 8) (cabin : s.cabin? n = some c) :
    s.takeReadCabins n = (s, .parts [s.cabinPart0 c, s.cabinPart1 c]) := by
  unfold Station.takeReadCabins
  rw [if_neg (by omega), if_pos high, cabin]

theorem takeReadCabins_entry {n : Nat} {e : QueueEntry} (low : 9 ≤ n) (entry : s.cabins.queue[n - 9]? = some e) :
    s.takeReadCabins n = (s, .parts [e.part0, s.entryPart1 e]) := by
  unfold Station.takeReadCabins
  rw [if_neg (by omega), if_neg (by omega), entry]

theorem takeReadCabins_noEntry {n : Nat} (low : 9 ≤ n) (short : s.cabins.queue.length ≤ n - 9) :
    s.takeReadCabins n = s.refusedByState := by
  unfold Station.takeReadCabins
  rw [if_neg (by omega), if_neg (by omega), List.getElem?_eq_none short]

theorem takeFindParty_held {p : PartyKey} {h : Holding} (party : orderParty o = some p)
    (holding : s.holdingOf p = some h) :
    s.takeFindParty o =
      (s, .parts
        [[oneByte h.locker, s.stateCode h.locker, holdingFlags h, h.openings] ++ threeBytes h.serial]) := by
  unfold Station.takeFindParty
  rw [party, Option.bind_some, holding]

theorem takeFindParty_unheld {p : PartyKey} (party : orderParty o = some p) (unheld : s.holdingOf p = none) :
    s.takeFindParty o = (s, .silent) := by
  unfold Station.takeFindParty
  rw [party, Option.bind_some, unheld]

theorem orderParty_coded {b1 b2 b3 : Byte} {rest' : List Byte} (params : o.params = x :: b1 :: b2 :: b3 :: rest')
    (small : x.toNat ≤ 1) : orderParty o = some ⟨if x = 0 then .family else .solo, b1 ++ b2 ++ b3⟩ := by
  have kind : partyKindOf x = some (if x = 0 then .family else .solo) := by
    unfold partyKindOf
    split
    · rfl
    next notZero =>
      have zero : x.toNat ≠ 0 := fun e => notZero (BitVec.eq_of_toNat_eq e)
      exact if_pos (BitVec.eq_of_toNat_eq (show x.toNat = 1 by omega))
  unfold orderParty
  rw [paramByte_zero params, kind]
  unfold paramByte
  rw [params]
  rfl

theorem secondsToGrace_eq (g c : BitVec 16) :
    secondsToGrace g c = if (g - c).toNat < 32768 then g - c else Config.pastGrace g c := by
  unfold secondsToGrace
  rw [BitVec.msb_eq_decide]
  by_cases low : (g - c).toNat < 32768
  · rw [if_pos low]
    exact if_neg (by simpa using low)
  · rw [if_neg low]
    exact if_pos (by simpa using low)

/-- Reports of equal data leave equal stations. -/
theorem reported_congr {t : Station} {code result page : Byte} {d d' : List Byte} (same : s = t) (data : d = d') :
    s.reported o code result page d = t.reported o code result page d' := by
  rw [same, data]

end

section

variable {o : OrderFrame} {x : Byte} {rest : List Byte} {st : State} {P : Station → Station → Prop}
  {data : List (List Byte)}

theorem runs_readLocker (ready : st.station.Ready) (takes : st.station.Takes o) (params : o.params = x :: rest)
    (other : st.station.restart.mode ≠ .unset) (low : 1 ≤ x.toNat) (high : x.toNat ≤ st.station.orders.setup.lockerCount)
    (effect : (st.station.take (.readLocker o)).heardLine.takeReadLocker x.toNat =
      ((st.station.take (.readLocker o)).heardLine, .parts data))
    (room : st.station.Room data.length)
    (p : P (st.station.take (.readLocker o)) (Station.queueParts 10 o 0 data (st.station.take (.readLocker o)).heardLine)) :
    Runs (.readLocker o) st P := by
  have first : paramByte o 0 = x := paramByte_zero params
  refine runs_parts (u := (st.station.take (.readLocker o)).heardLine) rfl ready takes
    ((testOrder_passes (s := (st.station.take _).heardLine) (params_one params) (awayInUnset_other other) rfl ?_).trans ?_) ready.settled room p <;> rw [first]
  · exact namesLocker_present low high
  · exact effect

theorem runs_readCabins (ready : st.station.Ready) (takes : st.station.Takes o) (params : o.params = x :: rest)
    (other : st.station.restart.mode ≠ .unset) (paged : x.toNat ≤ 24)
    (named : namesCabinPage x.toNat (st.station.take (.readCabins o)).heardLine = true)
    (effect : (st.station.take (.readCabins o)).heardLine.takeReadCabins x.toNat =
      ((st.station.take (.readCabins o)).heardLine, .parts data))
    (room : st.station.Room data.length)
    (p : P (st.station.take (.readCabins o)) (Station.queueParts 11 o 0 data (st.station.take (.readCabins o)).heardLine)) :
    Runs (.readCabins o) st P := by
  have first : paramByte o 0 = x := paramByte_zero params
  refine runs_parts (u := (st.station.take (.readCabins o)).heardLine) rfl ready takes
    ((testOrder_passes (s := (st.station.take _).heardLine) (params_one params) (awayInUnset_other other) ?_ ?_).trans ?_) ready.settled room p <;> rw [first]
  · exact decide_eq_true paged
  · exact named
  · exact effect

theorem runs_readCabins_refused (ready : st.station.Ready) (takes : st.station.Takes o) (params : o.params = x :: rest)
    (other : st.station.restart.mode ≠ .unset) (paged : x.toNat ≤ 24)
    (named : namesCabinPage x.toNat (st.station.take (.readCabins o)).heardLine = true)
    (effect : (st.station.take (.readCabins o)).heardLine.takeReadCabins x.toNat =
      (st.station.take (.readCabins o)).heardLine.refusedByState)
    (room : st.station.Room 1) :
    Runs (.readCabins o) st fun a t => t = a.heardLine.reported o 11 2 (reportPage 11 o 0) [] := by
  have first : paramByte o 0 = x := paramByte_zero params
  refine runs_refused rfl ready takes room (result := .refusedState)
    ((testOrder_passes (s := (st.station.take _).heardLine) (params_one params) (awayInUnset_other other) ?_ ?_).trans ?_)
    <;> rw [first]
  · exact decide_eq_true paged
  · exact named
  · exact effect

theorem runs_findParty (ready : st.station.Ready) (takes : st.station.Takes o) (long : 4 ≤ o.params.length)
    (other : st.station.restart.mode ≠ .unset) {d : List Byte}
    (effect : (st.station.take (.findParty o)).heardLine.takeFindParty o =
      ((st.station.take (.findParty o)).heardLine, .parts [d]))
    (room : st.station.Room 1) :
    Runs (.findParty o) st fun a t => t = a.heardLine.reported o 12 1 0 d :=
  runs_parts rfl ready takes ((testOrder_passes (s := (st.station.take _).heardLine) (named := namesNothing) long
    (if_neg other) rfl rfl).trans effect) ready.settled room rfl

end

/-- Settles O43, read by read. -/
theorem reads : Obligations.Reads := by
  intro o x rest s ready takes room params place driveBytes
  have fits : s.station.link.queue.length + 3 ≤ 12 := room
  have long : 1 ≤ o.params.length := params_one params
  have first : paramByte o 0 = x := paramByte_zero params
  have one : s.station.Room 1 := show s.station.link.queue.length + 1 ≤ 12 by omega
  have two : s.station.Room 2 := show s.station.link.queue.length + 2 ≤ 12 by omega
  have placed (st : LockerState) : st.code = place st := by cases st <;> rfl
  have codes (a : Station) (output : Nat) : driveCodes a output = driveBytes (a.request? output) := by
    unfold driveCodes Station.outputLevel
    cases a.request? output with
    | none => rfl
    | some r =>
      obtain ⟨_, _, _, phase⟩ := r
      cases phase <;> rfl
  have page (part : Nat) (small : x.toNat ≤ 24) (few : part ≤ 1) : reportPage 11 o part = 4 * x + oneByte part := by
    rw [reportPage_paged (.inr rfl) params (by omega), oneByte_page part small few]
  have twoParts (small : x.toNat ≤ 24) (d0 d1 : List Byte) (a : Station) :
      Station.queueParts 11 o 0 [d0, d1] a = (a.reported o 11 1 (4 * x) d0).reported o 11 1 (4 * x + 1) d1 := by
    have page0 : reportPage 11 o 0 = 4 * x := (page 0 small (by decide)).trans (BitVec.add_zero _)
    show (a.queueReport 11 o .data 0 d0).queueReport 11 o .data 1 d1 = _
    rw [queueReport_page _ page0, queueReport_page _ (page 1 small (by decide))]
    rfl
  have queuePage {a : Station} (low : 9 ≤ x.toNat) : namesCabinPage x.toNat a = true := by
    unfold namesCabinPage
    rw [decide_eq_true low, Bool.or_true, Bool.true_or]
  refine ⟨fun unset => ⟨?_, ?_⟩, fun other => ⟨fun absent => ?_, fun low high l locker => ?_, fun zero => ?_,
    fun high => ?_, fun low high absent => ?_, fun low high present c cabin => ?_, fun e low high entry => ?_,
    fun low high short => ?_, fun b1 b2 b3 rest' tail small => ?_⟩⟩
  · exact runs_refused rfl ready takes one (result := .refusedState)
      (testOrder_away (s := (s.station.take _).heardLine) long (awayInUnset_unset unset))
  · exact runs_refused rfl ready takes one (result := .refusedState)
      (testOrder_away (s := (s.station.take _).heardLine) long (awayInUnset_unset unset))
  · refine runs_refused rfl ready takes one (result := .refusedNoSuch)
      (testOrder_unnamed (s := (s.station.take _).heardLine) long (awayInUnset_other other) rfl ?_)
    rw [first]
    exact namesLocker_absent absent
  · have number : l.number = x.toNat := locker?_number _ locker
    refine runs_readLocker ready takes params other low high (takeReadLocker_found locker) fits ?_
    have output : lockerOutput l.number = x.toNat - 1 := by
      rw [number]
      rfl
    have held : (s.station.take (.readLocker o)).heardLine.holdingAt x.toNat =
        (s.station.take (.readLocker o)).holdingAt x.toNat := rfl
    have claimed : (s.station.take (.readLocker o)).heardLine.claimAt x.toNat =
        (s.station.take (.readLocker o)).claimAt x.toNat := rfl
    refine reported_congr (reported_congr (reported_congr rfl ?_) ?_) ?_
    · have size : Size.code l.size = if l.size = .large then 1 else 0 := by cases l.size <;> rfl
      unfold Station.lockerPart0
      rw [placed, size, levelsByte_eq, number]
      refine congrArg₂ (· ++ ·) rfl (congrArg₂ List.cons ?_ (congrArg₂ List.cons ?_ rfl))
      · cases l.purpose with
        | none => rfl
        | some p => cases p <;> rfl
      · cases l.returnState with
        | none => rfl
        | some st => exact placed st
    · have drive := codes (s.station.take (.readLocker o)) (x.toNat - 1)
      unfold Station.lockerPart1 Station.claimFor
      rw [output, number]
      refine congrArg₂ (· ++ ·) ?_ ?_
      · rw [← drive]
        rfl
      · rw [held, claimed]
        cases (s.station.take (.readLocker o)).holdingAt x.toNat with
        | some h => exact congrArg (fun f => [f, h.openings] ++ twoBytes h.start) (holdingFlags_eq h)
        | none =>
          cases (s.station.take (.readLocker o)).claimAt x.toNat with
          | none => simp only [ite_self]
          | some c =>
            by_cases claiming : l.state = .claiming
            · rw [if_pos claiming]
              dsimp only
              rw [if_pos claiming]
              exact congrArg (fun b => [b, c.joined, flagCode c.insist, 0]) (claimStateCode_eq c.state)
            · rw [if_neg claiming]
              dsimp only
              rw [if_neg claiming]
    · unfold Station.lockerPart2 Station.claimFor
      rw [number, held, claimed]
      cases (s.station.take (.readLocker o)).holdingAt x.toNat with
      | some h => rfl
      | none =>
        cases (s.station.take (.readLocker o)).claimAt x.toNat with
        | none => simp only [ite_self]
        | some c =>
          by_cases claiming : l.state = .claiming
          · rw [if_pos claiming]
            dsimp only
            rw [if_pos claiming]
          · rw [if_neg claiming]
            dsimp only
            rw [if_neg claiming]
  · subst zero
    refine runs_readCabins ready takes params other (by decide) rfl (if_pos rfl) one ?_
    refine (queueReport_page _ (page 0 (by decide) (by decide))).trans (reported_congr rfl ?_)
    unfold Station.cabinsPage Station.cabinsInService
    simp only [Bool.decide_and]
    rfl
  · refine runs_refused rfl ready takes one (result := .refusedRange)
      (testOrder_uncoded (s := (s.station.take _).heardLine) long (awayInUnset_other other) ?_)
    rw [first]
    exact decide_eq_false (by omega)
  · have paged := page 0 (by omega) (by omega)
    have refused := runs_refused (st := s) (c := .readCabins o) rfl ready takes one (result := .refusedNoSuch)
      (testOrder_unnamed (s := (s.station.take _).heardLine) long (awayInUnset_other other)
        (by rw [first]; exact decide_eq_true (by omega)) ?_)
    · rw [paged, show 4 * x + oneByte 0 = 4 * x from BitVec.add_zero _] at refused
      exact refused
    · rw [first]
      unfold namesCabinPage
      rw [decide_eq_false (by omega), decide_eq_false (by omega), namesCabin_absent (s := (s.station.take _).heardLine) (.inr absent)]
      rfl
  · have number : c.number = x.toNat := cabin?_number _ cabin
    have named : namesCabinPage x.toNat (s.station.take (.readCabins o)).heardLine = true := by
      unfold namesCabinPage
      rw [namesCabin_present (s := (s.station.take _).heardLine) low present, Bool.or_true]
    refine runs_readCabins ready takes params other (by omega) named (takeReadCabins_cabin low high cabin) two ?_
    refine (twoParts (by omega) _ _ _).trans (reported_congr (reported_congr rfl ?_) ?_)
    · have drive := codes (s.station.take (.readCabins o)) (59 + x.toNat)
      unfold Station.cabinPart0
      rw [number, cabinFlags_eq, ← drive]
      cases c.state <;> cases c.latchPosition <;> cases c.presence <;> rcases c.latchTarget with _ | _ | _ <;> rfl
    · have drive := codes (s.station.take (.readCabins o)) (59 + x.toNat)
      unfold Station.cabinPart1
      rw [number, ← drive]
      cases c.reservedFor <;> rfl
  · refine runs_readCabins ready takes params other high (queuePage low) (takeReadCabins_entry low entry) two ?_
    refine (twoParts high _ _ _).trans (reported_congr rfl ?_)
    unfold Station.entryPart1
    cases e.state <;> cases e.graceEnd <;> simp only [secondsToGrace_eq] <;> rfl
  · exact runs_readCabins_refused ready takes params other high (queuePage low) (takeReadCabins_noEntry low short) one
  · intro p
    have params' : o.params = x :: b1 :: b2 :: b3 :: rest' := tail ▸ params
    have longer : 4 ≤ o.params.length := by
      rw [params']
      exact Nat.le_add_left 4 rest'.length
    have party := orderParty_coded params' small
    refine ⟨fun unheld => ?_, fun h l holding locker => ?_⟩
    · exact runs_silent rfl ready takes ((testOrder_passes (s := (s.station.take _).heardLine) (named := namesNothing)
        longer (if_neg other) rfl rfl).trans (takeFindParty_unheld (s := (s.station.take _).heardLine) party unheld))
    · have state : (s.station.take (.findParty o)).heardLine.stateCode h.locker = l.state.code := by
        unfold Station.stateCode Station.lockerState
        rw [show (s.station.take (.findParty o)).heardLine.locker? h.locker = some l from locker]
        rfl
      have found := takeFindParty_held (s := (s.station.take (.findParty o)).heardLine) party holding
      rw [state, holdingFlags_eq] at found
      exact runs_findParty ready takes longer other found one

end Sys2Proof.Machine

/-!
PROOFS. Orders on lockers (O45) and on cabins (O46).
-/

namespace Sys2Proof.Machine

open Sys2Proof

section

variable {s : Station} {n : Nat} {l : Locker}

/-! ### An order that passes every test (R180) -/

/-- In RUN, an order that names the locker or the cabin `n`, which is there. -/
theorem runs_passed {c : Instr} {code : Byte} {o : OrderFrame} {st : State} {P : Station → Station → Prop} {need k : Nat}
    {coded : Bool} {named : Nat → Station → Bool} {act : Nat → Station → Station × Answer} {u : Station}
    {result : OrderResult}
    (meaning : exec c st = performOrder c code o (Station.testOrder o need awayOutsideRun coded (named k) (act k)) st)
    (place : k = n) (unpaged : code ≠ 9 ∧ code ≠ 11) (ready : st.station.Ready) (takes : st.station.Takes o)
    (run : st.station.restart.mode = .run) (long : need ≤ o.params.length) (isCoded : coded = true)
    (isNamed : named n (st.station.take c).heardLine = true)
    (outcome : act n (st.station.take c).heardLine = (u, .plain result)) (settled : u.Settled) (room : u.Room 1)
    (p : P (st.station.take c) (u.reported o code result.code 0 [])) : Runs c st P := by
  subst place
  exact runs_order meaning unpaged ready takes
    ((testOrder_passes (s := (st.station.take c).heardLine) long (awayOutsideRun_run run) isCoded isNamed).trans outcome)
    settled room p

/-! ### The orders' own rules, by the locker's state (R40, R44) -/

theorem lockerState_of (locker : s.locker? n = some l) : s.lockerState n = some l.state := by
  unfold Station.lockerState
  rw [locker]
  rfl

theorem endable_iff {state : LockerState} :
    endable (some state) = true ↔ state ∈ [.opened, .locked, .unsecured, .jammed] := by
  cases state <;> decide

theorem takeEndHolding_ends (locker : s.locker? n = some l)
    (ends : l.state ∈ [.opened, .locked, .unsecured, .jammed] ∧ (s.holdingAt n).isSome = true) :
    s.takeEndHolding n = ((s.endHoldingAt n).freeLocker n, .plain .done) := by
  unfold Station.takeEndHolding
  refine if_pos (Bool.and_eq_true_iff.2 ⟨?_, ends.2⟩)
  rw [lockerState_of locker]
  exact endable_iff.2 ends.1

theorem takeEndHolding_refused (locker : s.locker? n = some l)
    (ends : ¬(l.state ∈ [.opened, .locked, .unsecured, .jammed] ∧ (s.holdingAt n).isSome = true)) :
    s.takeEndHolding n = (s, .plain .refusedState) := by
  unfold Station.takeEndHolding
  refine if_neg fun both => ?_
  obtain ⟨state, holding⟩ := Bool.and_eq_true_iff.1 both
  rw [lockerState_of locker] at state
  exact ends ⟨endable_iff.1 state, holding⟩

theorem takeLockerOff_free (locker : s.locker? n = some l) (state : l.state = .free) :
    s.takeLockerOff n = (s.settleLocker n .outOfService, .plain .done) := by
  unfold Station.takeLockerOff
  rw [lockerState_of locker, state]
  rfl

theorem takeLockerOff_off (locker : s.locker? n = some l) (state : l.state = .outOfService) :
    s.takeLockerOff n = (s, .plain .done) := by
  unfold Station.takeLockerOff
  rw [lockerState_of locker, state]
  rfl

theorem takeLockerOff_refused (locker : s.locker? n = some l) (notFree : l.state ≠ .free)
    (notOff : l.state ≠ .outOfService) : s.takeLockerOff n = (s, .plain .refusedState) := by
  unfold Station.takeLockerOff
  rw [lockerState_of locker]
  split
  next e => exact absurd (Option.some.inj e) notFree
  next e => exact absurd (Option.some.inj e) notOff
  · rfl

theorem takeLockerOn_off (locker : s.locker? n = some l) (state : l.state = .outOfService) :
    s.takeLockerOn n = (s.freeLocker n, .plain .done) := by
  unfold Station.takeLockerOn
  rw [lockerState_of locker, state]
  rfl

theorem takeLockerOn_free (locker : s.locker? n = some l) (state : l.state = .free) :
    s.takeLockerOn n = (s, .plain .done) := by
  unfold Station.takeLockerOn
  rw [lockerState_of locker, state]
  rfl

theorem takeLockerOn_refused (locker : s.locker? n = some l) (notFree : l.state ≠ .free)
    (notOff : l.state ≠ .outOfService) : s.takeLockerOn n = (s, .plain .refusedState) := by
  unfold Station.takeLockerOn
  rw [lockerState_of locker]
  split
  next e => exact absurd (Option.some.inj e) notOff
  next e => exact absurd (Option.some.inj e) notFree
  · rfl

theorem takeClearLocker_refused (locker : s.locker? n = some l) (sound : l.state ≠ .jammed) :
    s.takeClearLocker n = (s, .plain .refusedState) := by
  unfold Station.takeClearLocker
  rw [locker]
  exact if_neg sound

theorem takeClearLocker_jammed (locker : s.locker? n = some l) (jammed : l.state = .jammed) :
    s.takeClearLocker n = (s.settleJam l, .plain .done) := by
  unfold Station.takeClearLocker
  rw [locker]
  exact if_pos jammed

/-! ### The settlement of a jam (R40) -/

theorem settleJam_first (first : l.purpose = some .first) :
    s.settleJam l = (s.endHoldingAt l.number).freeLocker l.number := by
  unfold Station.settleJam
  rw [first]

theorem settleJam_held (held : l.purpose = some .retrieve ∨ (l.purpose = some .attendant ∧ l.returnState = some .locked)) :
    s.settleJam l = s.settleHeld l.number := by
  unfold Station.settleJam
  rcases held with retrieve | ⟨attendant, locked⟩
  · rw [retrieve]
  · rw [attendant, locked]

theorem settleJam_orphan (attendant : l.purpose = some .attendant) (orphan : l.returnState = some .orphan) :
    s.settleJam l =
      if s.doorClosed l.number then s.settleLocker l.number .orphan else s.freeLocker l.number := by
  unfold Station.settleJam
  rw [attendant, orphan]

theorem settleJam_free (attendant : l.purpose = some .attendant) (free : l.returnState = some .free) :
    s.settleJam l = s.freeLocker l.number := by
  unfold Station.settleJam
  rw [attendant, free]

theorem settleJam_off (attendant : l.purpose = some .attendant) (off : l.returnState = some .outOfService) :
    s.settleJam l = s.settleLocker l.number .outOfService := by
  unfold Station.settleJam
  rw [attendant, off]

theorem settleHeld_shut (shut : s.doorClosed n = true) : s.settleHeld n = s.lockLocker n := if_pos shut

theorem settleHeld_ajar (ajar : ¬s.doorClosed n = true) : s.settleHeld n = s.settleLocker n .opened := if_neg ajar

end

/-- Settles O45, order by order. -/
theorem lockerOrders : Obligations.LockerOrders := by
  intro n l s ready run room small low high locker
  have fits : s.station.link.queue.length + 3 ≤ 12 := room
  have one : s.station.Room 1 := show s.station.link.queue.length + 1 ≤ 12 by omega
  have byte : (oneByte n).toNat = n := oneByte_toNat (by omega)
  have number : l.number = n := locker?_number _ locker
  have ended (c : Instr) : (((s.station.take c).heardLine.endHoldingAt n).freeLocker n).Settled ∧
      (((s.station.take c).heardLine.endHoldingAt n).freeLocker n).Room 1 := by
    obtain ⟨reports, length⟩ := endHoldingAt_calm (s.station.take c).heardLine (ready.link.imp_right And.right)
      (show s.station.link.queue.length + 2 ≤ 12 by omega) n
    refine ⟨reports.trans ready.settled, ?_⟩
    show ((s.station.take c).heardLine.endHoldingAt n).link.queue.length + 1 ≤ 12
    have bound : ((s.station.take c).heardLine.endHoldingAt n).link.queue.length ≤ s.station.link.queue.length + 2 := length
    omega
  have named (c : Instr) : namesLocker n (s.station.take c).heardLine = true := namesLocker_present low high
  have first {o : OrderFrame} {rest : List Byte} (params : o.params = oneByte n :: rest) : (paramByte o 0).toNat = n := by
    rw [paramByte_zero params, byte]
  have second {o : OrderFrame} {b : Byte} {rest : List Byte} (params : o.params = b :: oneByte n :: rest) :
      (paramByte o 1).toNat = n := by
    rw [paramByte_one params, byte]
  refine ⟨fun o rest takes params => ?_, fun o rest takes params => ?_, fun o rest takes params => ?_,
    fun o rest takes params => ?_⟩
  · have runs {u : Station} {result : OrderResult} {P : Station → Station → Prop} :=
      runs_passed (c := .endHolding o) (st := s) (named := namesLocker) (act := Station.takeEndHolding) (u := u)
        (result := result) (P := P) rfl (first params) (by decide) ready takes run (params_one params) rfl (named _)
    refine ⟨fun ends => ?_, fun ends => ?_⟩
    · exact runs (result := .done) (takeEndHolding_ends (s := (s.station.take _).heardLine) locker ends) (ended _).1
        (ended _).2 rfl
    · exact runs (result := .refusedState) (takeEndHolding_refused (s := (s.station.take _).heardLine) locker ends)
        ready.settled one rfl
  · have runs {u : Station} {result : OrderResult} {P : Station → Station → Prop} :=
      runs_passed (c := .lockerServiceOff o) (st := s) (named := namesLocker) (act := Station.takeLockerOff) (u := u)
        (result := result) (P := P) rfl (first params) (by decide) ready takes run (params_two params)
        (decide_eq_true (paramByte_one params)) (named _)
    refine ⟨fun free => ?_, fun off => ?_, fun notFree notOff => ?_⟩
    · exact runs (result := .done) (takeLockerOff_free (s := (s.station.take _).heardLine) locker free) ready.settled
        one rfl
    · exact runs (result := .done) (takeLockerOff_off (s := (s.station.take _).heardLine) locker off) ready.settled one
        rfl
    · exact runs (result := .refusedState)
        (takeLockerOff_refused (s := (s.station.take _).heardLine) locker notFree notOff) ready.settled one rfl
  · have runs {u : Station} {result : OrderResult} {P : Station → Station → Prop} :=
      runs_passed (c := .lockerServiceOn o) (st := s) (named := namesLocker) (act := Station.takeLockerOn) (u := u)
        (result := result) (P := P) rfl (first params) (by decide) ready takes run (params_two params)
        (decide_eq_true (paramByte_one params)) (named _)
    refine ⟨fun off => ?_, fun free => ?_, fun notFree notOff => ?_⟩
    · exact runs (result := .done) (takeLockerOn_off (s := (s.station.take _).heardLine) locker off) ready.settled one
        rfl
    · exact runs (result := .done) (takeLockerOn_free (s := (s.station.take _).heardLine) locker free) ready.settled
        one rfl
    · exact runs (result := .refusedState)
        (takeLockerOn_refused (s := (s.station.take _).heardLine) locker notFree notOff) ready.settled one rfl
  · have runs {u : Station} {result : OrderResult} {P : Station → Station → Prop} :=
      runs_passed (c := .clearFaultLocker o) (st := s) (named := namesLocker) (act := Station.takeClearLocker) (u := u)
        (result := result) (P := P) rfl (second params) (by decide) ready takes run (params_two params)
        (decide_eq_true (paramByte_zero params)) (named _)
    intro closed settles
    refine ⟨fun sound => ?_, fun jammed => ?_⟩
    · exact runs (result := .refusedState) (takeClearLocker_refused (s := (s.station.take _).heardLine) locker sound)
        ready.settled one rfl
    subst number
    have clears {f : Station → Station}
        (settled : (s.station.take (.clearFaultLocker o)).heardLine.settleJam l =
          f (s.station.take (.clearFaultLocker o)).heardLine)
        (quiet : (f (s.station.take (.clearFaultLocker o)).heardLine).Settled)
        (left : (f (s.station.take (.clearFaultLocker o)).heardLine).Room 1) : settles f :=
      runs (result := .done)
        ((takeClearLocker_jammed (s := (s.station.take _).heardLine) locker jammed).trans
          (congrArg (fun t => (t, Answer.plain .done)) settled)) quiet left rfl
    refine ⟨fun first => ?_, fun held => ⟨fun shut => ?_, fun ajar => ?_⟩, fun attendant =>
      ⟨fun orphan => ⟨fun shut => ?_, fun ajar => ?_⟩, fun free => ?_, fun off => ?_⟩⟩
    · exact clears (f := fun b => (b.endHoldingAt l.number).freeLocker l.number) (settleJam_first first) (ended _).1
        (ended _).2
    · exact clears (f := fun b => b.lockLocker l.number) ((settleJam_held held).trans (settleHeld_shut shut))
        ready.settled one
    · exact clears (f := fun b => b.settleLocker l.number .opened) ((settleJam_held held).trans (settleHeld_ajar ajar))
        ready.settled one
    · exact clears (f := fun b => b.settleLocker l.number .orphan)
        ((settleJam_orphan attendant orphan).trans (if_pos shut)) ready.settled one
    · exact clears (f := fun b => b.freeLocker l.number) ((settleJam_orphan attendant orphan).trans (if_neg ajar))
        ready.settled one
    · exact clears (f := fun b => b.freeLocker l.number) (settleJam_free attendant free) ready.settled one
    · exact clears (f := fun b => b.settleLocker l.number .outOfService) (settleJam_off attendant off) ready.settled one

/-! ### The orders on cabins (R105, R106) -/

section

variable {s : Station} {n : Nat} {c : Cabin}

theorem cabinState_of (cabin : s.cabin? n = some c) : s.cabinState n = some c.state := by
  unfold Station.cabinState
  rw [cabin]
  rfl

theorem takeCabinOff_free (cabin : s.cabin? n = some c) (state : c.state = .free) :
    s.takeCabinOff n =
      ((s.changeCabin n fun c => c.cleared .outOfService).setLatchTarget n none, .plain .done) := by
  unfold Station.takeCabinOff
  rw [cabinState_of cabin, state]
  rfl

theorem takeCabinOff_off (cabin : s.cabin? n = some c) (state : c.state = .outOfService) :
    s.takeCabinOff n = (s, .plain .done) := by
  unfold Station.takeCabinOff
  rw [cabinState_of cabin, state]
  rfl

theorem takeCabinOff_refused (cabin : s.cabin? n = some c)
    (busy : c.state ∈ [.reserved, .admitting, .occupied, .fault]) : s.takeCabinOff n = (s, .plain .refusedState) := by
  unfold Station.takeCabinOff
  rw [cabinState_of cabin]
  simp only [List.mem_cons, List.not_mem_nil, or_false] at busy
  rcases busy with state | state | state | state <;> rw [state] <;> rfl

theorem takeCabinOn_off (cabin : s.cabin? n = some c) (state : c.state = .outOfService) :
    s.takeCabinOn n = (s.cabinBack n, .plain .done) := by
  unfold Station.takeCabinOn
  rw [cabinState_of cabin, state]
  rfl

theorem takeCabinOn_free (cabin : s.cabin? n = some c) (state : c.state = .free) :
    s.takeCabinOn n = (s, .plain .done) := by
  unfold Station.takeCabinOn
  rw [cabinState_of cabin, state]
  rfl

theorem takeCabinOn_refused (cabin : s.cabin? n = some c)
    (busy : c.state ∈ [.reserved, .admitting, .occupied, .fault]) : s.takeCabinOn n = (s, .plain .refusedState) := by
  unfold Station.takeCabinOn
  rw [cabinState_of cabin]
  simp only [List.mem_cons, List.not_mem_nil, or_false] at busy
  rcases busy with state | state | state | state <;> rw [state] <;> rfl

theorem takeClearCabin_fault (cabin : s.cabin? n = some c) (state : c.state = .fault) :
    s.takeClearCabin n = (s.cabinBack n, .plain .done) := by
  unfold Station.takeClearCabin
  rw [cabinState_of cabin, state]
  rfl

theorem takeClearCabin_refused (cabin : s.cabin? n = some c) (sound : c.state ≠ .fault) :
    s.takeClearCabin n = (s, .plain .refusedState) := by
  unfold Station.takeClearCabin
  rw [cabinState_of cabin]
  split
  next e => exact absurd (Option.some.inj e) sound
  · rfl

theorem cabinTaken_iff (cabin : s.cabin? n = some c) : s.cabinTaken n = true ↔ c.presence = .confirmed := by
  unfold Station.cabinTaken
  rw [cabin]
  simp

end

/-- Settles O46, order by order. -/
theorem cabinOrders : Obligations.CabinOrders := by
  intro n c s ready run room small low high cabin emptied back
  have byte : (oneByte n).toNat = n := oneByte_toNat (by omega)
  have named (c : Instr) : namesCabin n (s.station.take c).heardLine = true := namesCabin_present low high
  have first {o : OrderFrame} {rest : List Byte} (params : o.params = oneByte n :: rest) : (paramByte o 0).toNat = n := by
    rw [paramByte_zero params, byte]
  have second {o : OrderFrame} {b : Byte} {rest : List Byte} (params : o.params = b :: oneByte n :: rest) :
      (paramByte o 1).toNat = n := by
    rw [paramByte_one params, byte]
  have backs (cmd : Instr) : (s.station.take cmd).heardLine.cabinBack n = back (s.station.take cmd).heardLine := by
    unfold Station.cabinBack
    simp only [cabinTaken_iff (s := (s.station.take cmd).heardLine) cabin]
    rfl
  have kept {cmd : Instr} {t : Station} (link : t.link = (s.station.take cmd).heardLine.link) :
      t.Settled ∧ t.Room 1 := by
    unfold Station.Settled Station.Room
    rw [link]
    exact ⟨ready.settled, room⟩
  refine ⟨fun o rest takes params => ?_, fun o rest takes params => ?_, fun o rest takes params => ?_⟩
  · have runs {u : Station} {result : OrderResult} {P : Station → Station → Prop} :=
      runs_passed (c := .cabinServiceOff o) (st := s) (named := namesCabin) (act := Station.takeCabinOff) (u := u)
        (result := result) (P := P) rfl (first params) (by decide) ready takes run (params_two params)
        (decide_eq_true (paramByte_one params)) (named _)
    refine ⟨fun free => ?_, fun off => ?_, fun busy => ?_⟩
    · obtain ⟨settled, left⟩ := kept (cmd := .cabinServiceOff o) (t := ((s.station.take (.cabinServiceOff o)).heardLine.changeCabin n
        fun c => c.cleared .outOfService).setLatchTarget n none) (by simp)
      exact runs (result := .done) (takeCabinOff_free (s := (s.station.take _).heardLine) cabin free) settled left rfl
    · exact runs (result := .done) (takeCabinOff_off (s := (s.station.take _).heardLine) cabin off) ready.settled room
        rfl
    · exact runs (result := .refusedState) (takeCabinOff_refused (s := (s.station.take _).heardLine) cabin busy)
        ready.settled room rfl
  · have runs {u : Station} {result : OrderResult} {P : Station → Station → Prop} :=
      runs_passed (c := .cabinServiceOn o) (st := s) (named := namesCabin) (act := Station.takeCabinOn) (u := u)
        (result := result) (P := P) rfl (first params) (by decide) ready takes run (params_two params)
        (decide_eq_true (paramByte_one params)) (named _)
    refine ⟨fun off => ?_, fun free => ?_, fun busy => ?_⟩
    · obtain ⟨settled, left⟩ := kept (cabinBack_link (s.station.take (.cabinServiceOn o)).heardLine n)
      refine runs (result := .done) (takeCabinOn_off (s := (s.station.take _).heardLine) cabin off) settled left ?_
      rw [backs]
      rfl
    · exact runs (result := .done) (takeCabinOn_free (s := (s.station.take _).heardLine) cabin free) ready.settled room
        rfl
    · exact runs (result := .refusedState) (takeCabinOn_refused (s := (s.station.take _).heardLine) cabin busy)
        ready.settled room rfl
  · have runs {u : Station} {result : OrderResult} {P : Station → Station → Prop} :=
      runs_passed (c := .clearFaultCabin o) (st := s) (named := namesCabin) (act := Station.takeClearCabin) (u := u)
        (result := result) (P := P) rfl (second params) (by decide) ready takes run (params_two params)
        (decide_eq_true (paramByte_zero params)) (named _)
    refine ⟨fun fault => ?_, fun sound => ?_⟩
    · obtain ⟨settled, left⟩ := kept (cabinBack_link (s.station.take (.clearFaultCabin o)).heardLine n)
      refine runs (result := .done) (takeClearCabin_fault (s := (s.station.take _).heardLine) cabin fault) settled left ?_
      rw [backs]
      rfl
    · exact runs (result := .refusedState) (takeClearCabin_refused (s := (s.station.take _).heardLine) cabin sound)
        ready.settled room rfl

end Sys2Proof.Machine

/-!
PROOFS. RESTART (O48), and the timers of the tables (O49).
-/

namespace Sys2Proof.Machine

open Sys2Proof

variable {s : Station}

/-! ### RESTART (R190) -/

theorem restartWaitEnd_eq {w : RestartWait} (wait : s.orders.restartWait = some w) :
    s.restartWaitEnd = (s.reach w.deadline).beginOrdered := by
  unfold Station.restartWaitEnd
  rw [wait]

theorem live_running (live : s.live = true) : s.restart.phase = .running := by
  unfold Station.live at live
  exact of_decide_eq_true (Bool.and_eq_true_iff.1 live).1

/-- R195, R196: the warm start ORDERED of a station that runs. -/
theorem beginOrdered_eq (running : s.restart.phase = .running) :
    s.beginOrdered =
      { s.loseVolatile with
        deliveries := [.warmStartEnd s.restart.strapPins s.restart.zonePins 0]
        restart := { s.loseVolatile.restart with phase := .warm .ordered, check := s.retentionCheck } } := by
  unfold Station.beginOrdered Station.endCause Station.beginWarm Station.keptCheck
  rw [if_pos running]
  rfl

/-- Settles O48: the order and its wait, then the wait's bound. -/
theorem restart : Obligations.Restart := by
  refine ⟨fun o s ready takes room => ?_, fun w s live settled wait => ?_⟩
  · exact runs_order rfl (by decide) ready takes (testOrder_passes (s := (s.station.take _).heardLine)
      (named := namesNothing) (act := Station.takeRestart) (Nat.zero_le _) rfl rfl rfl) ready.settled room rfl
  · have begun := beginOrdered_eq (s := (s.station.take .restartWaitExpiry).reach w.deadline) (live_running live)
    refine runs_liveFinish rfl live ((restartWaitEnd_eq (s := s.station.take _) wait).trans begun) rfl ?_
    refine ⟨rfl, rfl, rfl, rfl, rfl, rfl, rfl, rfl, rfl, rfl, rfl, rfl, rfl, ?_⟩
    exact congrArg Config.retentionCheck (retained_loseVolatile ((s.station.take .restartWaitExpiry).reach w.deadline))

/-! ### The TALLY timer (R109 to R111) -/

theorem offer_timer (kind : Kind) (content : List Byte) (owner : Owner) (role : Role) (timer : Option Moment) :
    ({ s with tally.timer := timer } : Station).offer kind content owner role =
      { s.offer kind content owner role with tally.timer := timer } := by
  unfold Station.offer
  dsimp only [Station.newFrame]
  split
  · rfl
  · split
    · rfl
    · split
      · rfl
      · split <;> rfl

theorem tallyTick_down {u : Moment} (timer : s.tally.timer = some u) (down : s.link.up = false) :
    s.tallyTick = { s.reach u with tally.timer := some (u + 2000) } := by
  have quiet : (s.reach u).queueTally = s.reach u :=
    if_neg (by rw [show (s.reach u).link.up = false from down]; exact Bool.false_ne_true)
  unfold Station.tallyTick
  rw [timer]
  dsimp only
  rw [quiet]

theorem tallyTick_up {u : Moment} (timer : s.tally.timer = some u) (up : s.link.up = true) :
    s.tallyTick =
      ({ s.reach u with tally.timer := some (u + 2000) } : Station).offer .tally (s.reach u).tallyContent .tallyUnit
        .plain := by
  have queued : (s.reach u).queueTally = (s.reach u).offer .tally (s.reach u).tallyContent .tallyUnit .plain := if_pos up
  unfold Station.tallyTick
  rw [timer]
  dsimp only
  rw [queued]
  exact (offer_timer (s := s.reach u) _ _ _ _ _).symm

theorem tallyFlags_eq (hold walk overstay : Bool) :
    tallyFlags hold walk overstay =
      (if hold then 1 else 0) + (if walk then 2 else 0) + (if overstay then 4 else 0) := by
  have every : ∀ a b c : Bool,
      tallyFlags a b c = (if a then 1 else 0) + (if b then 2 else 0) + (if c then 4 else 0) := by decide
  exact every _ _ _

theorem modeCode_eq (m : Mode) :
    modeCode m = match m with
      | .recovering => 1
      | .run => 2
      | _ => 0 := by
  cases m <;> rfl

theorem freeCount_eq (z : Size) :
    s.freeCount z =
      (s.lockers.lockers.filter fun l =>
        decide (l.size = z ∧ l.state = .free ∧ s.doorClosed l.number = true)).length := by
  unfold Station.freeCount Station.freeClosed
  refine congrArg List.length (List.filter_congr fun l _ => ?_)
  rw [Bool.eq_iff_iff]
  simp only [Bool.and_eq_true, decide_eq_true_eq]

/-! ### The other timers -/

theorem ageNeighbour_ages {x : Nat} {n : Neighbour} (neighbour : s.neighbour? x = some n) (heard : n.heard = true)
    (fresh : n.aged = false) :
    s.ageNeighbour x =
      { s.reach (n.heardAt + 7000) with
        tally.neighbours :=
          updateWhere (fun m => decide (m.station = x)) (fun m => { m with aged := true }) s.tally.neighbours } := by
  have young : ¬n.stale = true := by
    unfold Neighbour.stale
    rw [heard, fresh]
    exact Bool.false_ne_true
  unfold Station.ageNeighbour
  rw [neighbour]
  exact if_neg young

theorem ageNeighbour_stale {x : Nat} {n : Neighbour} (neighbour : s.neighbour? x = some n)
    (stale : n.heard = false ∨ n.aged = true) : s.ageNeighbour x = s := by
  have old : n.stale = true := by
    unfold Neighbour.stale
    rcases stale with e | e <;> rw [e]
    · rfl
    · exact Bool.or_true _
  unfold Station.ageNeighbour
  rw [neighbour]
  exact if_pos old

theorem expireRedirect_eq {b : BitVec 24} {r : Redirect} (redirect : s.redirectOf b = some r) :
    s.expireRedirect b = (s.reach (r.moment + 30000)).removeRedirect b := by
  unfold Station.expireRedirect
  rw [redirect]

theorem holding_timed (h : Holding) (limit : Nat) (minute : BitVec 16) :
    h.timed limit minute =
      if limit ≠ 0 ∧ limit < (minute - h.start).toNat then { h with overstay := true } else h := by
  unfold Holding.timed Holding.elapsed
  by_cases past : limit ≠ 0 ∧ limit < (minute - h.start).toNat
  · rw [if_pos past, decide_eq_true past.1, decide_eq_true past.2, Bool.and_true, Bool.or_true]
  · have none : (decide (limit ≠ 0) && decide (limit < (minute - h.start).toNat)) = false := by
      rw [← Bool.decide_and]
      exact decide_eq_false past
    rw [if_neg past, none, Bool.or_false]

theorem timeCabin_eq (c : Cabin) :
    s.timeCabin c =
      if c.state = .occupied then
        { c with
          seconds := satInc c.seconds
          overstay :=
            if 60 * s.orders.setup.cabinLimit < (s.cabins.clock - c.occupancy).toNat then true else c.overstay }
      else c := by
  have set : (c.overstay || decide (60 * s.orders.setup.cabinLimit < s.elapsed c)) =
      if 60 * s.orders.setup.cabinLimit < (s.cabins.clock - c.occupancy).toNat then true else c.overstay := by
    show (c.overstay || decide (60 * s.orders.setup.cabinLimit < (s.cabins.clock - c.occupancy).toNat)) = _
    split
    next past => rw [decide_eq_true past, Bool.or_true]
    next short => rw [decide_eq_false short, Bool.or_false]
  unfold Station.timeCabin
  rw [set]

theorem minuteTick_eq :
    s.minuteTick =
      { s with
        now := max s.now s.lockers.minuteDue
        lockers.minute := s.lockers.minute + 1
        lockers.minuteDue := s.lockers.minuteDue + 60000
        lockers.holdings := s.lockers.holdings.map fun h =>
          if s.orders.setup.sessionLimit ≠ 0 ∧ s.orders.setup.sessionLimit < (s.lockers.minute + 1 - h.start).toNat then
            { h with overstay := true }
          else h } :=
  congrArg
    (fun holdings : List Holding =>
      ({ s with
          now := max s.now s.lockers.minuteDue
          lockers.minute := s.lockers.minute + 1
          lockers.minuteDue := s.lockers.minuteDue + 60000
          lockers.holdings := holdings } : Station))
    (List.map_congr_left fun h _ => holding_timed h s.orders.setup.sessionLimit (s.lockers.minute + 1))

/-- R86: the cabin clock has gone on by a second. -/
def Station.clockOn (s : Station) : Station :=
  { s.reach s.cabins.clockDue with
    cabins.clock := s.cabins.clock + 1
    cabins.clockDue := s.cabins.clockDue + 1000
    cabins.queue := s.cabins.queue.map QueueEntry.timed }

theorem clockTick_eq :
    s.clockTick =
      { s.clockOn with
        cabins.cabins := s.cabins.cabins.map fun c =>
          if c.state = .occupied then
            { c with
              seconds := satInc c.seconds
              overstay :=
                if 60 * s.orders.setup.cabinLimit < (s.cabins.clock + 1 - c.occupancy).toNat then true else c.overstay }
          else c } :=
  congrArg (fun cabins : List Cabin => ({ s.clockOn with cabins.cabins := cabins } : Station))
    (List.map_congr_left fun c _ => timeCabin_eq (s := s.clockOn) c)

/-- Settles O49, row by row. -/
theorem timerRows : Obligations.TimerRows := by
  intro s live settled
  refine ⟨fun u timer => ⟨fun down => ?_, fun up room => ?_⟩, fun x n neighbour => ⟨fun heard fresh => ?_, fun stale => ?_⟩,
    fun b r redirect => ?_, ?_, ?_⟩
  · exact runs_liveFinish rfl live (tallyTick_down (s := s.station.take _) timer down) settled rfl
  · have offered := tallyTick_up (s := s.station.take .tallyTimer) timer up
    refine runs_liveFinish rfl live offered ((offer_reports ({ (s.station.take .tallyTimer).reach u with
      tally.timer := some (u + 2000) } : Station) _ _ _ _ (.inl up) room).trans settled) ?_
    unfold Station.tallyContent
    rw [freeCount_eq, freeCount_eq, tallyFlags_eq, modeCode_eq]
    rfl
  · exact runs_live rfl live (ageNeighbour_ages (s := s.station.take _) neighbour heard fresh)
  · exact runs_live rfl live (ageNeighbour_stale (s := s.station.take _) neighbour stale)
  · exact runs_live rfl live (expireRedirect_eq (s := s.station.take _) redirect)
  · exact runs_live rfl live minuteTick_eq
  · exact runs_live rfl live clockTick_eq

end Sys2Proof.Machine

/-!
PROOFS. The waits of a locker (O50).
-/

namespace Sys2Proof.Machine

open Sys2Proof

section

variable {s : Station} {n : Nat} {l : Locker}

/-! ### A request withdrawn (R152) -/

/-- The request occupies the slot. -/
def DriveRequest.occupies (r : DriveRequest) (k : Slot) : Bool :=
  match r.phase with
  | .pull slot _ => decide (k.number = slot)
  | _ => false

/-- R151, R152: the slots, with that of a pull cut short resting. -/
def Station.slotsRested (output : Nat) (s : Station) : List Slot :=
  s.drive.slots.map fun k =>
    if (s.request? output).any (·.occupies k) = true then { k with restUntil := some (s.now + 20) } else k

theorem withdrawDrive_eq (output : Nat) :
    s.withdrawDrive output =
      { s with
        drive.queue := s.drive.queue.filter fun r => decide (r.output ≠ output)
        drive.slots := s.slotsRested output } := by
  have unchanged (idle : ∀ r, s.request? output = some r → ∀ k, r.occupies k = false) :
      s.slotsRested output = s.drive.slots := by
    unfold Station.slotsRested
    refine (List.map_congr_left fun k _ => if_neg ?_).trans (List.map_id _)
    cases found : s.request? output with
    | none => exact Bool.false_ne_true
    | some r =>
      rw [Option.any_some, idle r found k]
      exact Bool.false_ne_true
  unfold Station.withdrawDrive
  cases found : s.request? output with
  | none =>
    have absent : ∀ r ∈ s.drive.queue, decide (r.output ≠ output) = true := fun r mem => by
      simpa using List.find?_eq_none.1 found r mem
    rw [List.filter_eq_self.2 absent, unchanged fun r some => by rw [found] at some; cases some]
  | some r =>
    have idle (unpulled : ∀ k, r.occupies k = false) :
        s.removeRequest output =
          { s with
            drive.queue := s.drive.queue.filter fun r => decide (r.output ≠ output)
            drive.slots := s.slotsRested output } := by
      rw [unchanged fun q same k => by rw [found] at same; cases same; exact unpulled k]
      rfl
    dsimp only
    split
    next slot e pull =>
      have rested : (s.restSlot slot).drive.slots = s.slotsRested output := by
        unfold Station.slotsRested Station.restSlot updateWhere
        refine List.map_congr_left fun k _ => ?_
        rw [found, Option.any_some]
        unfold DriveRequest.occupies
        rw [pull]
      exact congrArg (fun slots =>
        ({ s with
            drive.queue := s.drive.queue.filter fun r => decide (r.output ≠ output)
            drive.slots := slots } : Station)) rested
    next phase => exact idle fun k => by unfold DriveRequest.occupies; rw [phase]
    next phase => exact idle fun k => by unfold DriveRequest.occupies; rw [phase]
    next phase => exact idle fun k => by unfold DriveRequest.occupies; rw [phase]

/-! ### The waits (R34, R35) -/

theorem grantWaitEnd_eq {w : Moment} (locker : s.locker? n = some l) (wait : l.grantWait = some w) :
    s.grantWaitEnd n = ((s.withdrawGrant n w).endHoldingAt n).freeLocker n := by
  unfold Station.grantWaitEnd
  rw [locker, Option.bind_some, wait]

theorem doorWaitEnd_eq {w : Moment} (locker : s.locker? n = some l) (wait : l.doorWait = some w) :
    s.doorWaitEnd n = ((s.reach w).withdrawDrive (n - 1)).settleUntaken n := by
  unfold Station.doorWaitEnd
  rw [locker, Option.bind_some, wait]
  rfl

/-- R149, R152: a pull that had ended before the grant wait did. -/
theorem withdrawGrant_late {r : DriveRequest} {slot : Nat} {e w : Moment} (found : s.request? (n - 1) = some r)
    (pull : r.phase = .pull slot e) (early : e < w) :
    s.withdrawGrant n w =
      { ((s.reach e).withdrawDrive (n - 1)).reach w with
        drive.late := s.drive.late ++ [n - 1]
        drive.jams := if s.boltEngaged n = true ∧ 3 ≤ r.attempt then satInc s.drive.jams else s.drive.jams } := by
  unfold Station.withdrawGrant
  rw [show s.request? (lockerOutput n) = some r from found]
  dsimp only
  rw [pull]
  refine (if_pos early).trans ?_
  simp only [Bool.and_eq_true, decide_eq_true_eq]
  rfl

theorem settleUntaken_first (locker : s.locker? n = some l) (first : l.purpose = some .first) :
    s.settleUntaken n = (s.endHoldingAt n).freeLocker n := by
  unfold Station.settleUntaken
  rw [locker]
  dsimp only
  rw [first]

theorem settleUntaken_locked (locker : s.locker? n = some l)
    (held : l.purpose = some .retrieve ∨ (l.purpose = some .attendant ∧ l.returnState = some .locked)) :
    s.settleUntaken n = s.lockLocker n := by
  unfold Station.settleUntaken
  rw [locker]
  dsimp only
  rcases held with retrieve | ⟨attendant, locked⟩
  · rw [retrieve]
  · rw [attendant]
    dsimp only
    rw [locked]
    rfl

theorem settleUntaken_returns {state : LockerState} (locker : s.locker? n = some l)
    (attendant : l.purpose = some .attendant) (back : l.returnState = some state) :
    s.settleUntaken n = s.returnLocker n state := by
  unfold Station.settleUntaken
  rw [locker]
  dsimp only
  rw [attendant]
  dsimp only
  rw [back]

end

/-- Settles O50, by the wait, and by the pull's end or the locker's purpose. -/
theorem lockerWaits : Obligations.LockerWaits := by
  intro n l s live settled room walks locker endedAt ended
  have cutShort (c : Instr) (w : Moment) :
      ((s.station.take c).reach w).withdrawDrive (n - 1) = ended w (s.station.take c) := withdrawDrive_eq (n - 1)
  have endsHolding (b : Station) (link : b.link = s.station.link) (walk : b.claims.walk = s.station.claims.walk) :
      ((b.endHoldingAt n).freeLocker n).Settled := by
    refine ((endHoldingAt_calm (s := b) ?_ ?_ n).1.trans (congrArg Link.reports link)).trans settled
    · rw [link, walk]
      exact walks
    · show b.link.queue.length + 2 ≤ 12
      rw [link]
      exact room
  have untaken {w : Moment} (wait : l.doorWait = some w) (outcome : Station → Station)
      (settle : (ended w (s.station.take (.doorWaitExpiry n))).settleUntaken n =
        outcome (s.station.take (.doorWaitExpiry n)))
      (quiet : (outcome (s.station.take (.doorWaitExpiry n))).Settled) :
      Runs (.doorWaitExpiry n) s fun a t => t = outcome a := by
    refine runs_liveFinish rfl live ?_ quiet rfl
    rw [doorWaitEnd_eq (s := s.station.take _) locker wait, cutShort, settle]
  refine ⟨fun w wait => ⟨fun cut => ?_, fun r slot e found pull early => ?_⟩, fun w wait => ⟨?_, ?_, ?_, ?_⟩⟩
  · have withdrawn : (s.station.take (.grantWaitExpiry n)).withdrawGrant n w = _ :=
      (withdrawGrant_cut (s := s.station.take _) n w cut).trans (cutShort _ w)
    refine runs_liveFinish rfl live ?_ (endsHolding (ended w (s.station.take _)) rfl rfl) rfl
    rw [grantWaitEnd_eq (s := s.station.take _) locker wait, withdrawn]
  · have moment (a : Station) : max (max a.now e) w = max a.now w := by
      rw [Nat.max_assoc, Nat.max_eq_right (Nat.le_of_lt early)]
    have withdrawn : (s.station.take (.grantWaitExpiry n)).withdrawGrant n w =
        { endedAt e w (s.station.take (.grantWaitExpiry n)) with
          drive.late := s.station.drive.late ++ [n - 1]
          drive.jams :=
            if s.station.boltEngaged n = true ∧ 3 ≤ r.attempt then satInc s.station.drive.jams
            else s.station.drive.jams } := by
      refine (withdrawGrant_late (s := s.station.take _) found pull early).trans ?_
      rw [withdrawDrive_eq]
      exact congrArg (fun now => ({ endedAt e w (s.station.take (.grantWaitExpiry n)) with
        now := now
        drive.late := s.station.drive.late ++ [n - 1]
        drive.jams :=
          if s.station.boltEngaged n = true ∧ 3 ≤ r.attempt then satInc s.station.drive.jams
          else s.station.drive.jams } : Station)) (moment s.station)
    have outcome := (grantWaitEnd_eq (s := s.station.take _) locker wait).trans
      (congrArg (fun b => (b.endHoldingAt n).freeLocker n) withdrawn)
    exact runs_liveFinish rfl live outcome (endsHolding _ rfl rfl) rfl
  · exact fun first => untaken wait _ (settleUntaken_first (s := ended w (s.station.take _)) locker first) (endsHolding (ended w _) rfl rfl)
  · exact fun held => untaken wait _ (settleUntaken_locked (s := ended w (s.station.take _)) locker held) settled
  · exact fun attendant back => untaken wait _ (settleUntaken_returns (s := ended w (s.station.take _)) locker attendant back) settled
  · intro back other attendant returns
    refine untaken wait (fun a => (ended w a).settleLocker n back)
      ((settleUntaken_returns (s := ended w (s.station.take _)) locker attendant returns).trans ?_) settled
    rcases List.mem_pair.1 other with orphan | outOfService
    · rw [orphan]
      rfl
    · rw [outOfService]
      rfl

end Sys2Proof.Machine

/-!
PROOFS. What secures a locker (O51), and a door event OPEN (O52).
-/

namespace Sys2Proof.Machine

open Sys2Proof

section

/-- A row of the scanner's events, once the filters have been loaded (R165). -/
theorem runs_loaded {c : Instr} {st : State} {f : Station → Station} {P : Station → Station → Prop}
    (meaning : exec c st = perform c (whenLoaded f) st) (live : st.station.live = true)
    (loaded : st.station.scan.loaded = true) (p : P (st.station.take c) (f (st.station.take c))) : Runs c st P :=
  runs_live meaning live ((if_pos (c := (st.station.take c).scan.loaded = true) loaded).symm ▸ p)

variable {s : Station} {n : Nat} {l : Locker}

@[simp] theorem follow_lockers (f : Levels → Levels) : (s.follow f).lockers = s.lockers := by
  unfold Station.follow
  split <;> rfl

@[simp] theorem follow_panel (f : Levels → Levels) : (s.follow f).panel = s.panel := by
  unfold Station.follow
  split <;> rfl

theorem locker?_follow (f : Levels → Levels) (locker : s.locker? n = some l) : (s.follow f).locker? n = some l := by
  unfold Station.locker? at locker ⊢
  rw [follow_lockers]
  exact locker

/-! ### The bolt and the closed door (R37 to R39) -/

theorem boltEngaged_loaded (loaded : s.scan.loaded = true) :
    s.boltEngaged n = s.scan.level.bolt.getLsbD (n - 1) :=
  if_pos loaded

theorem boltWaitEnd_eq {w : Moment} (loaded : s.scan.loaded = true) (locker : s.locker? n = some l)
    (wait : l.boltWait = some w) :
    s.boltWaitEnd n =
      if s.boltEngaged n = true then (s.reach w).lockLocker n else (s.reach w).settleLocker n .unsecured := by
  have sensed : (s.reach w).boltEngaged n = s.boltEngaged n :=
    (boltEngaged_loaded (s := s.reach w) loaded).trans (boltEngaged_loaded loaded).symm
  unfold Station.boltWaitEnd
  rw [locker, Option.bind_some, wait, ← sensed]

theorem closeDoor_opened (opened : s.lockerState n = some .opened) : s.closeDoor n = s.secure n := by
  unfold Station.closeDoor
  rw [opened]

theorem closeDoor_free (free : s.lockerState n = some .free) : s.closeDoor n = s.freeLocker n := by
  unfold Station.closeDoor
  rw [free]

theorem closeDoor_other {state : LockerState} (found : s.lockerState n = some state) (opened : state ≠ .opened)
    (free : state ≠ .free) : s.closeDoor n = s := by
  unfold Station.closeDoor
  rw [found]
  cases state with
  | opened => exact absurd rfl opened
  | free => exact absurd rfl free
  | _ => rfl

theorem boltIn_locks (locker : s.locker? n = some l)
    (secured : l.state = .unsecured ∨ (l.state = .opened ∧ l.boltWait.isSome = true)) :
    s.boltIn n = s.lockLocker n := by
  unfold Station.boltIn
  rw [locker]
  dsimp only
  rcases secured with unsecured | ⟨opened, wait⟩
  · rw [unsecured]
  · rw [opened]
    exact if_pos wait

theorem boltIn_locked (locker : s.locker? n = some l) (locked : l.state = .locked) :
    s.boltIn n = s.cancelBoltWait n := by
  unfold Station.boltIn
  rw [locker]
  dsimp only
  rw [locked]

theorem boltIn_opened (locker : s.locker? n = some l) (opened : l.state = .opened) (still : l.boltWait = none) :
    s.boltIn n = s := by
  unfold Station.boltIn
  rw [locker]
  dsimp only
  rw [opened]
  exact if_neg (by rw [still]; exact Bool.false_ne_true)

theorem boltIn_other (locker : s.locker? n = some l)
    (other : l.state ∈ [.free, .claiming, .unbolting, .unbolted, .jammed, .orphan, .outOfService]) :
    s.boltIn n = s := by
  unfold Station.boltIn
  rw [locker]
  dsimp only
  cases state : l.state with
  | unsecured => rw [state] at other; exact absurd other (by decide)
  | locked => rw [state] at other; exact absurd other (by decide)
  | opened => rw [state] at other; exact absurd other (by decide)
  | _ => rfl

theorem boltOut_locked (locked : s.lockerState n = some .locked) :
    s.boltOut n = s.changeLocker n fun l => { l with boltWait := some (s.now + 2000) } := by
  unfold Station.boltOut
  rw [locked]

theorem boltOut_other {state : LockerState} (found : s.lockerState n = some state) (unlocked : state ≠ .locked) :
    s.boltOut n = s := by
  unfold Station.boltOut
  rw [found]
  cases state with
  | locked => exact absurd rfl unlocked
  | _ => rfl

/-! ### A door event OPEN (R36, R37, R39, R41, R172) -/

theorem settleTaken_opened (locker : s.locker? n = some l)
    (held : l.purpose = some .first ∨ l.purpose = some .retrieve ∨
      (l.purpose = some .attendant ∧ l.returnState = some .locked)) :
    s.settleTaken n = (s.settleLocker n .opened).countOpening n := by
  unfold Station.settleTaken
  rw [locker]
  dsimp only
  rcases held with first | retrieve | ⟨attendant, locked⟩
  · rw [first]
  · rw [retrieve]
  · rw [attendant, locked]

theorem settleTaken_freed (locker : s.locker? n = some l) (attendant : l.purpose = some .attendant)
    (back : l.returnState = some .orphan ∨ l.returnState = some .free) : s.settleTaken n = s.freeLocker n := by
  unfold Station.settleTaken
  rw [locker]
  dsimp only
  rcases back with orphan | free
  · rw [attendant, orphan]
  · rw [attendant, free]

theorem settleTaken_closed (locker : s.locker? n = some l) (attendant : l.purpose = some .attendant)
    (back : l.returnState = some .outOfService) : s.settleTaken n = s.settleLocker n .outOfService := by
  unfold Station.settleTaken
  rw [locker]
  dsimp only
  rw [attendant, back]

theorem openDoor_driven (locker : s.locker? n = some l) (driven : l.state = .unbolting ∨ l.state = .unbolted) :
    s.openDoor n = (s.withdrawDrive (n - 1)).settleTaken n := by
  unfold Station.openDoor
  rw [lockerState_of locker]
  rcases driven with unbolting | unbolted
  · rw [unbolting]
    rfl
  · rw [unbolted]
    rfl

/-- What a door event OPEN does to a locker that is not driven. -/
def Station.doorAjar (n : Nat) (state : LockerState) (s : Station) : Station :=
  match state with
  | .opened => s.cancelBoltWait n
  | .unsecured => (s.settleLocker n .opened).countOpening n
  | .locked => s.forceLocked n
  | .free | .orphan | .claiming => s.forceDoor n
  | .jammed | .outOfService | .unbolting | .unbolted => s

theorem openDoor_still (locker : s.locker? n = some l) (still : l.state ≠ .unbolting) (held : l.state ≠ .unbolted) :
    s.openDoor n = s.doorAjar n l.state := by
  unfold Station.openDoor
  rw [lockerState_of locker]
  cases state : l.state with
  | unbolting => exact absurd state still
  | unbolted => exact absurd state held
  | _ => rfl

theorem settleTaken_panel : (s.settleTaken n).panel = s.panel := by
  unfold Station.settleTaken
  split
  · rfl
  · split <;> rfl

theorem openDoor_panel : (s.openDoor n).panel = s.panel := by
  have driven : ((s.withdrawDrive (lockerOutput n)).settleTaken n).panel = s.panel := by
    rw [settleTaken_panel, withdrawDrive_eq]
  unfold Station.openDoor
  split
  case h_1 | h_2 => exact driven
  all_goals rfl

/-- R172: the cursor leaves the panel when the door of the marked locker opens. -/
theorem doorOpened_eq (locker : s.locker? n = some l) :
    s.doorOpened n =
      if s.panel.cursor = some n then
        { (s.setDoor n false).openDoor n with panel.cursor := none, panel.cursorTimer := none }
      else (s.setDoor n false).openDoor n := by
  have panel : ((s.setDoor n false).openDoor n).panel = s.panel := openDoor_panel.trans (follow_panel _)
  unfold Station.doorOpened Station.cursorOpened
  rw [locker, panel]
  rfl

theorem withdrawDrive_locker? (output : Nat) : (s.withdrawDrive output).locker? n = s.locker? n := by
  rw [withdrawDrive_eq]
  rfl

end

/-- Settles O51, by the event and the state of the locker. -/
theorem securingRows : Obligations.SecuringRows := by
  intro n l s live loaded locker waits stops
  have kept (c : Instr) (f : Levels → Levels) : ((s.station.take c).follow f).locker? n = some l :=
    locker?_follow f locker
  have state (c : Instr) (f : Levels → Levels) := lockerState_of (kept c f)
  refine ⟨fun w wait => ?_, ?_, ?_, ?_⟩
  · exact runs_live rfl live (boltWaitEnd_eq (s := s.station.take _) loaded locker wait)
  · refine runs_loaded rfl live loaded ?_
    refine ⟨fun opened => ?_, fun free => ?_, fun opened free => ?_⟩
    · exact closeDoor_opened ((state _ _).trans (congrArg some opened))
    · exact closeDoor_free ((state _ _).trans (congrArg some free))
    · exact closeDoor_other (state _ _) opened free
  · refine runs_loaded rfl live loaded ?_
    refine ⟨fun secured => ?_, fun locked => ?_, fun opened still => ?_, fun other => ?_⟩
    · exact boltIn_locks (kept _ _) secured
    · exact boltIn_locked (kept _ _) locked
    · exact boltIn_opened (kept _ _) opened still
    · exact boltIn_other (kept _ _) other
  · refine runs_loaded rfl live loaded ?_
    refine ⟨fun locked => ?_, fun unlocked => ?_⟩
    · exact boltOut_locked ((state _ _).trans (congrArg some locked))
    · exact boltOut_other (state _ _) unlocked

/-- Settles O52, by the state of the locker. -/
theorem doorOpens : Obligations.DoorOpens := by
  intro n l s live loaded locker
  refine runs_loaded rfl live loaded ?_
  intro b uncursored counted forced driven ended
  have ajar {x : Station} (opens : b.openDoor n = x) :
      (s.station.take (.doorOpened n)).doorOpened n = uncursored x :=
    (doorOpened_eq (s := s.station.take _) locker).trans (congrArg uncursored opens)
  have kept : b.locker? n = some l := locker?_follow _ locker
  have keptStill : ended.locker? n = some l := (withdrawDrive_locker? (n - 1)).trans kept
  have driving (state : driven) : b.openDoor n = ended.settleTaken n := openDoor_driven kept state
  have standing {state : LockerState} (found : l.state = state) (still : state ≠ .unbolting) (held : state ≠ .unbolted) :
      b.openDoor n = b.doorAjar n state := by
    rw [← found] at still held ⊢
    exact openDoor_still kept still held
  refine ⟨fun state taken => ?_, fun state attendant back => ?_, fun state attendant back => ?_,
    fun opened => ?_, fun unsecured => ?_, fun locked => ?_, fun other => ?_, fun other => ?_⟩
  · exact ajar ((driving state).trans (settleTaken_opened keptStill taken))
  · exact ajar ((driving state).trans (settleTaken_freed keptStill attendant back))
  · exact ajar ((driving state).trans (settleTaken_closed keptStill attendant back))
  · exact ajar (standing opened (by decide) (by decide))
  · exact ajar (standing unsecured (by decide) (by decide))
  · exact ajar (standing locked (by decide) (by decide))
  · simp only [List.mem_cons, List.not_mem_nil, or_false] at other
    rcases other with state | state | state <;> exact ajar (standing state (by decide) (by decide))
  · rcases List.mem_pair.1 other with state | state <;> exact ajar (standing state (by decide) (by decide))

end Sys2Proof.Machine

/-!
PROOFS. The end of a bolt's pull (O53), and the end of a latch's pull, of a jam rest and of a slot's rest (O54).
-/

namespace Sys2Proof.Machine

open Sys2Proof

section

variable {s : Station} {n : Nat} {r : DriveRequest} {slot : Nat} {e : Moment}

/-! ### The arbiter's rows (R149 to R151) -/

theorem removeRequest_changeRequest (output : Nat) (f : DriveRequest → DriveRequest)
    (keeps : ∀ r, (f r).output = r.output) : (s.changeRequest output f).removeRequest output = s.removeRequest output := by
  refine congrArg (fun queue => ({ s with drive.queue := queue } : Station)) ?_
  show (updateWhere (fun r => decide (r.output = output)) f s.drive.queue).filter _ = s.drive.queue.filter _
  induction s.drive.queue with
  | nil => rfl
  | cons r rs ih =>
    unfold updateWhere at ih ⊢
    by_cases here : r.output = output
    · simpa [here, keeps] using ih
    · simpa [here] using ih

theorem request?_changeRequest (output : Nat) (f : DriveRequest → DriveRequest) (keeps : ∀ r, (f r).output = r.output) :
    (s.changeRequest output f).request? output = (s.request? output).map f :=
  find?_updateWhere_same _ f _ fun r => by rw [keeps]

/-- The arbiter at the end of a pull: the moment has come, and the slot rests (R151). -/
def Station.pulled (slot : Nat) (e : Moment) (s : Station) : Station := (s.reach e).restSlot slot

theorem pullEnd_late {output : Nat} (late : output ∈ s.drive.late) : s.pullEnd output = s.lateReport output :=
  if_pos (List.contains_iff_mem.2 late)

theorem pullEnd_bolt {output : Nat} {p : Purpose} (onTime : output ∉ s.drive.late)
    (found : s.request? output = some r) (bolt : r.purpose = .bolt p) (pull : r.phase = .pull slot e) :
    s.pullEnd output = (s.pulled slot e).boltPulled r := by
  refine (if_neg fun late => onTime (List.contains_iff_mem.1 late)).trans ?_
  rw [found]
  dsimp only
  rw [pull]
  dsimp only
  rw [bolt]
  rfl

theorem pullEnd_latch {output : Nat} {x : Latch} (onTime : output ∉ s.drive.late)
    (found : s.request? output = some r) (latch : r.purpose = .latch x) (pull : r.phase = .pull slot e) :
    s.pullEnd output = (s.pulled slot e).latchPulled r x := by
  refine (if_neg fun late => onTime (List.contains_iff_mem.1 late)).trans ?_
  rw [found]
  dsimp only
  rw [pull]
  dsimp only
  rw [latch]
  rfl

theorem jamRestEnd_eq {output : Nat} (found : s.request? output = some r) (rest : r.phase = .rest e) :
    s.jamRestEnd output =
      Station.grantTest { s.reach e with
        drive.queue :=
          (s.drive.queue.filter fun q => decide (q.output ≠ output)) ++
            [{ r with attempt := r.attempt + 1, phase := .waiting }] } := by
  unfold Station.jamRestEnd
  rw [found]
  dsimp only
  rw [rest]
  rfl

theorem slotRestEnd_eq {k : Nat} {x : Slot} (found : (s.drive.slots.find? fun y => decide (y.number = k)) = some x)
    (rest : x.restUntil = some e) :
    s.slotRestEnd k =
      Station.grantTest { s.reach e with
        drive.slots :=
          updateWhere (fun y => decide (y.number = k)) (fun y => { y with restUntil := none }) s.drive.slots } := by
  unfold Station.slotRestEnd
  rw [found, Option.bind_some, rest]
  rfl

/-! ### A bolt's pull (R17, R34, R40) -/

theorem boltPulled_reached (retracted : s.boltEngaged (r.output + 1) = false) :
    s.boltPulled r =
      (s.changeRequest r.output fun q => { q with phase := .hold }).changeLocker (r.output + 1) fun l =>
        if l.state = .unbolting then
          { l with
            wear := satInc l.wear
            state := .unbolted
            grantWait := none
            doorWait := some (s.now + 1000 * s.orders.setup.doorWait) }
        else { l with wear := satInc l.wear } := by
  refine (if_pos (by rw [retracted]; rfl)).trans ?_
  unfold Station.boltReached Station.countWear
  exact changeLocker_changeLocker _ _ _ _ fun _ => rfl

theorem boltPulled_rests (engaged : s.boltEngaged (r.output + 1) = true) (early : r.attempt < 3) :
    s.boltPulled r = (s.restRequest r.output).countWear (r.output + 1) :=
  (if_neg (by rw [engaged]; decide)).trans (if_pos early)

theorem boltPulled_jams (engaged : s.boltEngaged (r.output + 1) = true) (last : 3 ≤ r.attempt) :
    s.boltPulled r =
      ((s.jamRequest r.output).changeLocker (r.output + 1) fun l =>
        { l with wear := satInc l.wear, state := .jammed, grantWait := none }).post .seeAttendant := by
  refine (if_neg (by rw [engaged]; decide)).trans ((if_neg (by omega)).trans ?_)
  exact congrArg (Station.post .seeAttendant) (changeLocker_changeLocker _ _ _ _ fun _ => rfl)

/-! ### A latch's pull (R88, R90) -/

theorem latchPulled_reached {x : Latch} (reached : s.latchLevel (r.output - 59) = x) :
    s.latchPulled r x = ((s.removeRequest r.output).latchDone (r.output - 59)).grantTest := if_pos reached

theorem latchPulled_rests {x : Latch} (missed : s.latchLevel (r.output - 59) ≠ x) (early : r.attempt < 3) :
    s.latchPulled r x = (s.restRequest r.output).latchMissed (r.output - 59) x :=
  (if_neg missed).trans (if_pos early)

theorem latchPulled_jams {x : Latch} (missed : s.latchLevel (r.output - 59) ≠ x) (last : 3 ≤ r.attempt) :
    s.latchPulled r x = (s.jamRequest r.output).faultCabin (r.output - 59) :=
  (if_neg missed).trans (if_neg (by omega))

end

/-- Settles O53, by the report's lateness, the bolt's level and the attempt. -/
theorem boltPullEnds : Obligations.BoltPullEnds := by
  constructor
  · intro n s live first late
    refine runs_live rfl live ((pullEnd_late (s := s.station.take _) late).trans ?_)
    unfold Station.lateReport Station.countWear
    rw [Nat.sub_add_cancel first]
  intro n l r p slot e s live first locker onTime found bolt pull rested
  have output : r.output = n - 1 := request?_output s.station found
  have number : r.output + 1 = n := by omega
  refine runs_live rfl live ?_
  intro b phase
  have ends : (s.station.take (.pullEnd (n - 1))).pullEnd (n - 1) = b.boltPulled r :=
    pullEnd_bolt (s := s.station.take _) onTime found bolt pull
  refine ⟨fun retracted => ?_, fun engaged early => ?_, fun engaged last => ?_⟩
  · rw [ends, boltPulled_reached (by rw [number]; exact retracted), number, output]
    rfl
  · rw [ends, boltPulled_rests (by rw [number]; exact engaged) early, number, output]
    rfl
  · rw [ends, boltPulled_jams (by rw [number]; exact engaged) last, number, output]
    rfl

section

variable {s : Station} {n : Nat} {c : Cabin}

/-- R88: a request that is no longer the cabin's is withdrawn, and the comparison is made again. -/
theorem latchMissed_kept {x : Latch} (cabin : s.cabin? n = some c) (target : c.latchTarget = some x) :
    s.latchMissed n x = s := by
  unfold Station.latchMissed
  rw [cabin]
  exact if_pos target

theorem latchMissed_withdraws {x : Latch} (cabin : s.cabin? n = some c) (other : c.latchTarget ≠ some x) :
    s.latchMissed n x =
      ((s.withdrawDrive (59 + n)).changeCabin n fun d => { d with latchMoving := false }).compareLatch n := by
  unfold Station.latchMissed
  rw [cabin]
  exact if_neg other

/-- R150, R152: a request withdrawn as its jam rest begins. -/
theorem withdrawDrive_restRequest {output : Nat} {r : DriveRequest} (found : s.request? output = some r) :
    (s.restRequest output).withdrawDrive output = s.removeRequest output := by
  have resting : (s.restRequest output).request? output = some { r with phase := .rest (s.now + 200) } := by
    refine (request?_changeRequest (f := fun q => { q with phase := .rest (s.now + 200) }) output fun _ => rfl).trans ?_
    rw [found]
    rfl
  refine (withdrawDrive_unpulled _ resting fun _ _ => by simp).trans ?_
  exact removeRequest_changeRequest output (fun q => { q with phase := .rest (s.now + 200) }) fun _ => rfl

theorem faultCabin_unreserved (cabin : s.cabin? n = some c) (unreserved : c.reservedFor = none) :
    s.faultCabin n = s.changeCabin n fun d => { d.cleared .fault with latchTarget := none, latchMoving := false } := by
  unfold Station.faultCabin
  rw [cabin, Option.bind_some, unreserved]

theorem faultCabin_reserved {serial : BitVec 24} (cabin : s.cabin? n = some c) (reserved : c.reservedFor = some serial) :
    s.faultCabin n =
      (s.changeCabin n fun d =>
        { d.cleared .fault with latchTarget := none, latchMoving := false }).returnEntry serial := by
  unfold Station.faultCabin
  rw [cabin, Option.bind_some, reserved]

theorem removeRequest_fresh (output : Nat) : ∀ q ∈ (s.removeRequest output).drive.queue, q.output ≠ output :=
  fun _ mem => of_decide_eq_true (List.mem_filter.1 mem).2

end

/-- Settles O54, by the latch's level, the attempt and the cabin's target, and by the rest that ends. -/
theorem latchPullEnds : Obligations.LatchPullEnds := by
  refine ⟨?_, fun o r e s live found rest => ?_, fun k x u s live found rest => ?_⟩
  · intro n c r x slot e s live cabin onTime found latch pull
    have output : r.output = 59 + n := request?_output s.station found
    have number : r.output - 59 = n := by omega
    refine runs_live rfl live ?_
    intro b removed still requested
    have ends : (s.station.take (.pullEnd (59 + n))).pullEnd (59 + n) = b.latchPulled r x :=
      pullEnd_latch (s := s.station.take _) onTime found latch pull
    have gone : removed = b.removeRequest (59 + n) := rfl
    have fresh : ∀ q ∈ removed.drive.queue, q.output ≠ 59 + n := removeRequest_fresh (s := b) _
    have quiet : (still removed).cabin? n = some { c with latchMoving := false } :=
      cabin?_changed removed cabin _ fun _ => rfl
    refine ⟨fun reached there => ?_, fun y reached target away => ?_, fun missed early => ?_, fun missed last => ?_⟩
    · rw [ends, latchPulled_reached (by rw [number]; exact reached), number, output]
      exact congrArg Station.grantTest (latchEnded_unwanted removed cabin there)
    · rw [ends, latchPulled_reached (by rw [number]; exact reached), number, output]
      exact congrArg Station.grantTest (latchEnded_wanted removed cabin target away fresh)
    · intro resting
      have rests : b.latchPulled r x = resting.latchMissed n x := by
        rw [latchPulled_rests (by rw [number]; exact missed) early, number, output]
        rfl
      have withdrawn (other : c.latchTarget ≠ some x) : b.latchPulled r x = (still removed).compareLatch n := by
        refine rests.trans ((latchMissed_withdraws (s := resting) cabin other).trans ?_)
        exact congrArg (fun u => (still u).compareLatch n) (withdrawDrive_restRequest (s := b) found)
      rw [ends]
      refine ⟨fun kept => ?_, fun other there => ?_, fun y target other away => ?_⟩
      · exact rests.trans (latchMissed_kept cabin kept)
      · exact (withdrawn other).trans (compareLatch_unwanted _ quiet (latchWanted_none (.inr there)))
      · refine (withdrawn (by rw [target]; simpa using other)).trans ?_
        exact compareLatch_wanted _ quiet (latchWanted_some rfl target (Ne.symm away)) fresh
    · intro faulty
      rw [ends, latchPulled_jams (by rw [number]; exact missed) last, number, output]
      refine ⟨fun unreserved => ?_, fun serial reserved => ?_⟩
      · exact faultCabin_unreserved cabin unreserved
      · exact faultCabin_reserved cabin reserved
  · exact runs_live rfl live (jamRestEnd_eq found rest)
  · exact runs_live rfl live (slotRestEnd_eq found rest)

end Sys2Proof.Machine

/-!
PROOFS. The cabins' timers (O56), and the events of the pads and of the latches (O57).
-/

namespace Sys2Proof.Machine

open Sys2Proof

section

variable {s : Station} {n : Nat} {c : Cabin} {p : Pad}

/-! ### The timers (R95, R99, R100) -/

theorem dropReservation_eq {serial : BitVec 24} (cabin : s.cabin? n = some c) (reserved : c.reservedFor = some serial) :
    s.dropReservation n = s.removeEntry serial := by
  unfold Station.dropReservation
  rw [cabin, Option.bind_some, reserved]

theorem graceEnd_eq {u : Moment} (cabin : s.cabin? n = some c) (grace : c.graceAt = some u) :
    s.graceEnd n =
      ({ (s.reach u).dropReservation n with
          cabins.missed := satInc ((s.reach u).dropReservation n).cabins.missed } : Station).releaseCabin n := by
  unfold Station.graceEnd
  rw [cabin, Option.bind_some, grace]

theorem admitEnd_eq {u : Moment} (cabin : s.cabin? n = some c) (admitted : c.admitAt = some u) :
    s.admitEnd n = ((s.reach u).dropReservation n).releaseCabin n := by
  unfold Station.admitEnd
  rw [cabin, Option.bind_some, admitted]

theorem vacateEnd_eq {u : Moment} {m : BitVec 16} (cabin : s.cabin? n = some c) (vacate : c.vacateAt = some u)
    (clear : c.clearMoment = some m) :
    s.vacateEnd n =
      ({ s.reach u with
          cabins.dwell := dwellUpdate s.cabins.dwell (min 1800 (m - c.occupancy).toNat) } :
        Station).releaseCabin n := by
  unfold Station.vacateEnd Station.measuredDwell
  rw [cabin]
  dsimp only
  rw [vacate, clear]
  rfl

end

/-- Settles O56, by the timer. -/
theorem cabinTimers : Obligations.CabinTimers := by
  intro n c u s live cabin
  refine ⟨fun b grace reserved => ?_, fun b admitted reserved => ?_, fun m vacate clear => ?_⟩
  · refine runs_live rfl live ((graceEnd_eq (s := s.station.take _) cabin grace).trans ?_)
    rw [dropReservation_eq (s := (s.station.take _).reach u) cabin reserved]
    rfl
  · refine runs_live rfl live ((admitEnd_eq (s := s.station.take _) cabin admitted).trans ?_)
    rw [dropReservation_eq (s := (s.station.take _).reach u) cabin reserved]
    rfl
  · exact runs_live rfl live (vacateEnd_eq (s := s.station.take _) cabin vacate clear)

section

variable {s : Station} {n : Nat} {c : Cabin} {p : Pad}

/-! ### The pads (R91 to R94, R164) -/

@[simp] theorem follow_now (f : Levels → Levels) : (s.follow f).now = s.now := by
  unfold Station.follow
  split <;> rfl

@[simp] theorem follow_cabins (f : Levels → Levels) : (s.follow f).cabins = s.cabins := by
  unfold Station.follow
  split <;> rfl

@[simp] theorem follow_pads (f : Levels → Levels) : (s.follow f).scan.pads = s.scan.pads := by
  unfold Station.follow
  split <;> rfl

@[simp] theorem follow_orders (f : Levels → Levels) : (s.follow f).orders = s.orders := by
  unfold Station.follow
  split <;> rfl

@[simp] theorem follow_drive (f : Levels → Levels) : (s.follow f).drive = s.drive := by
  unfold Station.follow
  split <;> rfl

theorem cabin?_follow (f : Levels → Levels) (m : Nat) : (s.follow f).cabin? m = s.cabin? m := by
  unfold Station.cabin?
  rw [follow_cabins]

theorem presence_of (pad : s.pad? n = some p) : s.presence n = p.presence := by
  unfold Station.presence
  rw [pad]

theorem presence_follow (f : Levels → Levels) : (s.follow f).presence n = s.presence n := by
  unfold Station.presence Station.pad?
  rw [follow_pads]

/-- R91, R94: what presence SEEN makes of the cabin. -/
def Cabin.sighted (c : Cabin) : Cabin :=
  if c.state = .occupied ∧ c.vacateAt.isSome = true then
    { c with presence := .seen, vacateAt := none, clearMoment := none }
  else { c with presence := .seen }

/-- R91, R94: what presence CLEAR makes of the cabin. -/
def Cabin.vacated (vacateAt : Moment) (clock : BitVec 16) (c : Cabin) : Cabin :=
  if c.state = .occupied then
    { c with presence := .clear, vacateAt := some vacateAt, clearMoment := some clock }
  else { c with presence := .clear }

theorem Cabin.sighted_number (c : Cabin) : c.sighted.number = c.number := by
  unfold Cabin.sighted
  split <;> rfl

theorem Cabin.vacated_number (vacateAt : Moment) (clock : BitVec 16) (c : Cabin) :
    (c.vacated vacateAt clock).number = c.number := by
  unfold Cabin.vacated
  split <;> rfl

theorem presenceSeen_present (seen : s.presence n ≠ .clear) : s.presenceSeen n = s.setPadLevel n true :=
  if_neg (by rw [Station.setPadLevel, presence_follow]; exact seen)

theorem presenceSeen_clear (clear : s.presence n = .clear) :
    s.presenceSeen n =
      ((s.setPadLevel n true).changePad n fun q =>
        { q with presence := .seen, confirmAt := some (s.now + 1000) }).changeCabin n Cabin.sighted := by
  refine (if_pos (by rw [Station.setPadLevel, presence_follow]; exact clear)).trans ?_
  have now : (s.setPadLevel n true).now = s.now := follow_now _
  rw [now]
  unfold Station.setPresence Station.cancelVacate
  exact changeCabin_changeCabin _ _ _ _ fun _ => rfl

theorem presenceClear_absent (clear : s.presence n = .clear) : s.presenceClear n = s.setPadLevel n false :=
  if_pos (by rw [Station.setPadLevel, presence_follow]; exact clear)

theorem presenceClear_present (seen : s.presence n ≠ .clear) :
    s.presenceClear n =
      ((s.setPadLevel n false).changePad n fun q => { q with presence := .clear, confirmAt := none }).changeCabin n
        (Cabin.vacated (s.now + 1000 * s.orders.setup.vacateTime) s.cabins.clock) := by
  refine (if_neg (by rw [Station.setPadLevel, presence_follow]; exact seen)).trans ?_
  have now : (s.setPadLevel n false).now = s.now := follow_now _
  have orders : (s.setPadLevel n false).orders = s.orders := follow_orders _
  have cabins : (s.setPadLevel n false).cabins = s.cabins := follow_cabins _
  rw [← now, ← orders, ← cabins]
  unfold Station.setPresence Station.startVacate
  exact changeCabin_changeCabin _ _ _ _ fun _ => rfl

theorem presenceConfirmed_eq {u : Moment} (pad : s.pad? n = some p) (timer : p.confirmAt = some u) :
    s.presenceConfirmed n =
      ((((s.reach u).changePad n fun q => { q with presence := .confirmed, confirmAt := none }).changeCabin n fun d =>
        { d with presence := .confirmed }).takePresence n) := by
  unfold Station.presenceConfirmed
  rw [pad, Option.bind_some, timer]
  rfl

/-- A change of a cabin, in a station whose cabins are those of `a`. -/
theorem changeCabin_alone {a : Station} {f : Cabin → Cabin} (same : s.cabins = a.cabins) (cabin : a.cabin? n = some c)
    (keeps : ∀ d, (f d).number = d.number) :
    (s.changeCabin n f).cabin? n = some (f c) ∧ (∀ m, m ≠ n → (s.changeCabin n f).cabin? m = a.cabin? m) ∧
      s.changeCabin n f = { s with cabins.cabins := (s.changeCabin n f).cabins.cabins } := by
  have lookup (m : Nat) : s.cabin? m = a.cabin? m := by
    unfold Station.cabin?
    rw [same]
  refine ⟨cabin?_changed s ((lookup n).trans cabin) f keeps, fun m other => ?_, rfl⟩
  exact (cabin?_changeCabin_other s n m f keeps other).trans (lookup m)

theorem walkIn_unreserved (cabin : s.cabin? n = some c) (unreserved : c.reservedFor = none) :
    s.walkIn n = s.occupyCabin n none := by
  unfold Station.walkIn
  rw [cabin, Option.bind_some, unreserved]

theorem walkIn_reserved {serial : BitVec 24} (cabin : s.cabin? n = some c) (reserved : c.reservedFor = some serial) :
    s.walkIn n = (s.occupyCabin n none).returnEntry serial := by
  unfold Station.walkIn
  rw [cabin, Option.bind_some, reserved]

theorem admitCabin_reserved {serial : BitVec 24} (cabin : s.cabin? n = some c) (reserved : c.reservedFor = some serial) :
    s.admitCabin n = (s.occupyCabin n (some serial)).removeEntry serial := by
  unfold Station.admitCabin
  rw [cabin, Option.bind_some, reserved]

theorem takePresence_walks (cabin : s.cabin? n = some c) (state : c.state = .free ∨ c.state = .reserved) :
    s.takePresence n = s.walkIn n := by
  unfold Station.takePresence
  rw [cabinState_of cabin]
  rcases state with free | reserved
  · rw [free]
  · rw [reserved]

theorem takePresence_admits (cabin : s.cabin? n = some c) (admitting : c.state = .admitting) :
    s.takePresence n = s.admitCabin n := by
  unfold Station.takePresence
  rw [cabinState_of cabin, admitting]

theorem takePresence_other (cabin : s.cabin? n = some c) (other : c.state ∈ [.occupied, .outOfService, .fault]) :
    s.takePresence n = s := by
  unfold Station.takePresence
  rw [cabinState_of cabin]
  simp only [List.mem_cons, List.not_mem_nil, or_false] at other
  rcases other with state | state | state <;> rw [state]

end

/-- Settles O57, by the event, the pad's presence and the cabin's state. -/
theorem presenceAndLatch : Obligations.PresenceAndLatch := by
  intro n c p s live loaded cabin pad? pad enters
  refine ⟨?_, fun u timer => ?_, ?_, fun latched => ?_⟩
  · refine runs_loaded rfl live loaded ?_
    intro b
    have was : (s.station.take (.presenceSeen n)).presence n = p.presence := presence_of (s := s.station.take _) pad?
    have present (seen : p.presence ≠ .clear) : (s.station.take (.presenceSeen n)).presenceSeen n = b :=
      presenceSeen_present (by rw [was]; exact seen)
    have appears (clear : p.presence = .clear) := presenceSeen_clear (was.trans clear)
    have cabins : (pad .seen (some (s.station.now + 1000)) b).cabins = (s.station.take (.presenceSeen n)).cabins :=
      follow_cabins _
    obtain ⟨itself, others, alone⟩ := changeCabin_alone cabins cabin Cabin.sighted_number
    refine ⟨present, fun clear still => ?_, fun clear occupied vacate => ?_, fun m other => ?_⟩
    · rw [appears clear]
      exact ⟨itself.trans (congrArg some (if_neg still)), alone⟩
    · rw [appears clear]
      exact ⟨itself.trans (congrArg some (if_pos ⟨occupied, vacate⟩)), alone⟩
    · by_cases clear : p.presence = .clear
      · rw [appears clear]
        exact others m other
      · rw [present clear]
        exact cabin?_follow _ m
  · refine runs_loaded rfl live loaded ?_
    intro b
    have here : b.cabin? n = some { c with presence := .confirmed } :=
      cabin?_changed (pad .confirmed none ((s.station.take (.presenceConfirmed n)).reach u)) cabin _ fun _ => rfl
    have confirms : (s.station.take (.presenceConfirmed n)).presenceConfirmed n = b.takePresence n :=
      presenceConfirmed_eq (s := s.station.take _) pad? timer
    rw [confirms]
    refine ⟨fun free unreserved => ?_, fun serial state reserved => ?_, fun serial state reserved => ?_, fun other => ?_⟩
    · exact (takePresence_walks here (.inl free)).trans (walkIn_unreserved here unreserved)
    · exact (takePresence_walks here (.inr state)).trans (walkIn_reserved here reserved)
    · exact (takePresence_admits here state).trans (admitCabin_reserved here reserved)
    · exact takePresence_other here other
  · refine runs_loaded rfl live loaded ?_
    intro b
    have was : (s.station.take (.presenceClear n)).presence n = p.presence := presence_of (s := s.station.take _) pad?
    have cabins : (pad .clear none b).cabins = (s.station.take (.presenceClear n)).cabins := follow_cabins _
    refine ⟨fun clear => presenceClear_absent (was.trans clear), fun seen => ?_⟩
    rw [presenceClear_present (s := s.station.take _) (n := n) (by rw [was]; exact seen)]
    exact changeCabin_alone cabins cabin (Cabin.vacated_number _ _)
  · refine runs_loaded rfl live loaded ?_
    intro position b
    have here : b.cabin? n = some { c with latchPosition := position } :=
      cabin?_changed ((s.station.take _).follow _) ((cabin?_follow _ n).trans cabin)
        (fun d => { d with latchPosition := position }) fun _ => rfl
    refine ⟨fun settled => ?_, fun x target away still idle => ?_⟩
    · refine compareLatch_unwanted b here (latchWanted_none ?_)
      rcases settled with untargeted | there | moving
      · exact .inr (.inl untargeted)
      · exact .inr (.inr there)
      · exact .inl moving
    · have queue : b.drive.queue = s.station.drive.queue := congrArg DriveArbiter.queue (follow_drive _)
      have fresh : ∀ r ∈ b.drive.queue, r.output ≠ 59 + n := by
        rw [queue]
        simpa [Station.request?] using idle
      exact compareLatch_wanted b here (latchWanted_some still target (Ne.symm away)) fresh

end Sys2Proof.Machine

/-!
PROOFS. A fault of a group and the drive supply's levels (O55).
-/

namespace Sys2Proof.Machine

open Sys2Proof

section

variable {s t : Station} {n k : Nat}

/-! ### Lockers settled one after another (R35, R154) -/

/-- The FREE frames of `k` holdings that end fit into the queue, and reports of none wait (R138). -/
structure Station.FreesFit (s : Station) (k : Nat) : Prop where
  reports : s.link.reports = []
  announced : ∀ h ∈ s.lockers.holdings, h.unannounced = false
  room : s.Room k

theorem Station.FreesFit.fewer (fit : s.FreesFit (k + 1)) (link : t.link = s.link)
    (holdings : t.lockers.holdings = s.lockers.holdings) : t.FreesFit k := by
  have room : s.link.queue.length + (k + 1) ≤ 12 := fit.room
  refine ⟨by rw [link, fit.reports], by rw [holdings]; exact fit.announced, ?_⟩
  unfold Station.Room
  rw [link]
  omega

theorem endHoldingAt_freesFit (fit : s.FreesFit (k + 1)) : ((s.endHoldingAt n).freeLocker n).FreesFit k := by
  have room : s.link.queue.length + (k + 1) ≤ 12 := fit.room
  have kept : ∀ h ∈ (s.holdingGone n).lockers.holdings, h.unannounced = false := fun h mem =>
    fit.announced h (List.mem_of_mem_filter mem)
  cases holding : s.holdingAt n with
  | none =>
    have unheld : s.endHoldingAt n = s := by
      unfold Station.endHoldingAt
      rw [holding]
    rw [unheld]
    exact fit.fewer rfl rfl
  | some h =>
    rw [endHoldingAt_announced s holding (fit.announced h (List.mem_of_find?_eq_some holding))]
    split
    next up =>
      have few : (s.holdingGone n).link.queue.length < 12 := show s.link.queue.length < 12 by omega
      have longer := offer_length (s.holdingGone n) .free (partyBytes h.party ++ [oneByte n]) .lockerTable .plain up few
      refine ⟨(offer_reports (s.holdingGone n) _ _ _ _ (.inl up) few).trans fit.reports, ?_, ?_⟩
      · show ∀ g ∈ (Station.offer _ _ _ _ (s.holdingGone n)).lockers.holdings, _
        rw [offer_lockers]
        exact kept
      · have longer' : _ ≤ s.link.queue.length + 1 := longer
        show _ + k ≤ 12
        exact (Nat.add_le_add_right longer' k).trans (by omega)
    next =>
      refine ⟨fit.reports, kept, ?_⟩
      show s.link.queue.length + k ≤ 12
      omega

theorem returnLocker_link (state : LockerState) : (s.returnLocker n state).link = s.link := by
  unfold Station.returnLocker
  split <;> rfl

theorem returnLocker_holdings (state : LockerState) :
    (s.returnLocker n state).lockers.holdings = s.lockers.holdings := by
  unfold Station.returnLocker
  split <;> rfl

theorem settleUntaken_freesFit (fit : s.FreesFit (k + 1)) : (s.settleUntaken n).FreesFit k := by
  unfold Station.settleUntaken
  split
  · exact fit.fewer rfl rfl
  · split
    · exact endHoldingAt_freesFit fit
    · exact fit.fewer rfl rfl
    · split
      · exact fit.fewer (returnLocker_link _) (returnLocker_holdings _)
      · exact fit.fewer rfl rfl
    · exact fit.fewer rfl rfl

theorem settleUntakens_freesFit (held : List DriveRequest) (fit : s.FreesFit held.length) :
    (held.foldl (fun u r => u.settleUntaken (r.output + 1)) s).link.reports = [] := by
  induction held generalizing s with
  | nil => exact fit.reports
  | cons r held ih => exact ih (settleUntaken_freesFit fit)

/-! ### The groups' inputs and the supply (R153, R155, R194) -/

/-- The levels of the groups, with that of group `g` put in place. -/
def groupMarked (g : Nat) (b : Bool) (x : BitVec 4) : BitVec 4 :=
  BitVec.ofBoolListLE ((List.range 4).map fun k => if k = g then b else x.getLsbD k)

theorem groupBit_eq {g : Nat} (group : g ≤ 3) (b : Bool) (x : BitVec 4) : groupBit g b x = groupMarked g b x := by
  have every : ∀ (g : Fin 4) (b : Bool) (x : Fin (2 ^ 4)),
      groupBit g.val b (BitVec.ofFin x) = groupMarked g.val b (BitVec.ofFin x) := by
    decide
  exact every ⟨g, by omega⟩ b x.toFin

theorem driveFault_untracked {g : Nat} {active : Bool} (group : g ≤ 3)
    (still : s.live = false ∨ active = false ∨ s.faulted g = true) :
    s.driveFault g active = { s with drive.inputs := groupMarked g active s.drive.inputs } := by
  rw [← groupBit_eq group]
  refine if_neg fun all => ?_
  simp only [Bool.and_eq_true, Bool.not_eq_true'] at all
  obtain ⟨⟨live, driven⟩, clear⟩ := all
  rcases still with dead | ended | stands
  · exact absurd (live.symm.trans dead) (by decide)
  · exact absurd (driven.symm.trans ended) (by decide)
  · exact absurd (stands.symm.trans clear) (by decide)

theorem driveFault_tracked {g : Nat} (group : g ≤ 3) (live : s.live = true) (clear : s.faulted g = false) :
    s.driveFault g true =
      ({ s with
          drive.inputs := groupMarked g true s.drive.inputs
          drive.latches := groupMarked g true s.drive.latches } : Station).abortDrives fun r =>
        decide (groupOf r.output = g) := by
  rw [← groupBit_eq group, ← groupBit_eq group]
  refine if_pos ?_
  simp only [Bool.and_eq_true, Bool.not_eq_true']
  exact ⟨⟨live, trivial⟩, clear⟩

theorem supplyLow_held (held : s.restart.holdDown = true) :
    s.supplyLow = { s with restart.driveSupply := .low, restart.releaseAt := none } := by
  refine (if_pos held).trans ?_
  rw [← held]

theorem supplyLow_released (released : s.restart.holdDown = false) :
    s.supplyLow =
      ({ s with
          restart.driveSupply := .low
          restart.holdDown := true
          restart.releaseAt := none } : Station).abortDrives fun _ => true :=
  if_neg (by rw [released]; exact Bool.false_ne_true)

theorem releaseHoldDown_eq {u : Moment} (timer : s.restart.releaseAt = some u) :
    s.releaseHoldDown =
      Station.grantTest { s.reach u with restart.holdDown := false, restart.releaseAt := none } := by
  unfold Station.releaseHoldDown
  rw [timer]

end

/-- A row after which the owners' reports are taken (R138), with none to take. -/
theorem runs_finish {c : Instr} {st : State} {f : Station → Station} {u : Station} {P : Station → Station → Prop}
    (meaning : exec c st = performFinish c f st) (outcome : f (st.station.take c) = u) (settled : u.Settled)
    (p : P (st.station.take c) u) : Runs c st P := by
  refine runs_performFinish meaning ?_
  rw [outcome, finish_settled u settled]
  exact p

theorem supplyRise_starts {s : Station} (held : s.restart.holdDown = true) (off : s.restart.releaseAt = none) :
    s.supplyRise = { s with restart.driveSupply := .high, restart.releaseAt := some (s.now + 100) } := by
  unfold Station.supplyRise
  rw [held, off]
  rfl

theorem supplyRise_runs {s : Station} (other : s.restart.holdDown = false ∨ s.restart.releaseAt.isSome = true) :
    s.supplyRise = { s with restart.driveSupply := .high } := by
  have stays : ¬(s.restart.holdDown && s.restart.releaseAt.isNone) = true := by
    rcases other with released | timer
    · rw [released]
      exact Bool.false_ne_true
    · obtain ⟨u, runs⟩ := Option.isSome_iff_exists.1 timer
      rw [runs, Option.isNone_some, Bool.and_false]
      exact Bool.false_ne_true
  exact congrArg (fun timer => ({ s with restart.driveSupply := .high, restart.releaseAt := timer } : Station))
    (if_neg stays)

/-- Settles O55, by the event and by whether a hold is aborted. -/
theorem supplyRows : Obligations.SupplyRows := by
  intro s quiet pulls cut holds untaken settled
  have settles : (fun (u : Station) (r : DriveRequest) => u.settleUntaken (r.output + 1)) =
      fun u r => untaken (r.output + 1) u := by
    funext u r
    unfold Station.settleUntaken
    dsimp only [untaken]
    cases u.locker? (r.output + 1) with
    | none => rfl
    | some l =>
      dsimp only
      cases l.purpose with
      | none => rfl
      | some purpose =>
        cases purpose with
        | first => rfl
        | retrieve => rfl
        | attendant =>
          cases l.returnState with
          | none => rfl
          | some back => cases back <;> rfl
  have aborts (p : DriveRequest → Bool) (b : Station) (queue : b.drive.queue = s.station.drive.queue)
      (link : b.link = s.station.link) (holdings : b.lockers.holdings = s.station.lockers.holdings) :
      settled p b (b.abortDrives p).finish := by
    have cuts : b.abortDrives p =
        (b.drive.queue.filter fun r => p r && decide (r.phase = .hold)).foldl
          (fun u r => u.settleUntaken (r.output + 1)) (cut p b) := by
      unfold Station.abortDrives
      rw [queue]
      dsimp only [cut, pulls]
      rw [queue]
      rfl
    have aborted : b.abortDrives p = (holds p).foldl (fun u r => u.settleUntaken (r.output + 1)) (cut p b) := by
      rw [cuts, queue]
    refine ⟨fun unheld => ?_, fun announced room => ?_⟩
    · have none : holds p = [] := List.filter_eq_nil_iff.2 fun r mem held => by
        obtain ⟨picked, hold⟩ := Bool.and_eq_true_iff.1 held
        exact unheld r mem picked (of_decide_eq_true hold)
      rw [none] at aborted
      rw [aborted]
      exact finish_settled _ ((congrArg Link.reports link).trans quiet)
    · have fit : (cut p b).FreesFit (holds p).length := by
        refine ⟨(congrArg Link.reports link).trans quiet, ?_, ?_⟩
        · show ∀ h ∈ b.lockers.holdings, _
          rw [holdings]
          exact announced
        · show b.link.queue.length + _ ≤ 12
          rw [link]
          exact room
      have silent := settleUntakens_freesFit (holds p) fit
      rw [← aborted] at silent
      rw [finish_settled _ silent, aborted, settles]
  refine ⟨fun g group => ⟨fun dead active => ?_, fun live clear => ?_, fun stands => ?_, ?_⟩,
    fun released => ?_, fun held => ?_, fun held off => ?_, fun other => ?_, ?_, fun u timer => ?_⟩
  · exact runs_finish rfl (driveFault_untracked (s := s.station.take _) group (.inl dead)) quiet rfl
  · refine runs_performFinish rfl ?_
    rw [driveFault_tracked (s := s.station.take _) group live clear]
    exact aborts _ _ rfl rfl rfl
  · exact runs_finish rfl (driveFault_untracked (s := s.station.take _) group (.inr (.inr stands))) quiet rfl
  · exact runs_finish rfl (driveFault_untracked (s := s.station.take _) group (.inr (.inl rfl))) quiet rfl
  · refine runs_performFinish rfl ?_
    rw [supplyLow_released (s := s.station.take _) released]
    exact aborts _ _ rfl rfl rfl
  · exact runs_finish rfl (supplyLow_held (s := s.station.take _) held) quiet rfl
  · exact runs_perform rfl (supplyRise_starts (s := s.station.take _) held off)
  · exact runs_perform rfl (supplyRise_runs (s := s.station.take _) other)
  · exact runs_perform rfl rfl
  · exact runs_perform rfl (releaseHoldDown_eq (s := s.station.take _) timer)

end Sys2Proof.Machine

/-!
PROOFS. The panel's cells, its strobes and the window of a text (for O58).
-/

namespace Sys2Proof.Machine

open Sys2Proof

section

/-! ### The window of a text (R175) -/

variable {x : Text}

theorem window_still (short : x.chars.length ≤ 24) (k : Nat) :
    x.window k = x.chars ++ List.replicate (24 - x.chars.length) ' ' :=
  if_neg fun scrolls => absurd (of_decide_eq_true scrolls) (by show ¬24 < x.chars.length; omega)

theorem window_scrolling (long : 24 < x.chars.length) (k : Nat) :
    x.window k =
      (List.range 24).map fun i =>
        ((x.chars ++ List.replicate 4 ' ')[(k + i) % (x.chars ++ List.replicate 4 ' ').length]?).getD ' ' :=
  if_pos (decide_eq_true long)

theorem window_length (long : 24 < x.chars.length) (k : Nat) : (x.window k).length = 24 := by
  rw [window_scrolling long, List.length_map, List.length_range]

theorem window_get (long : 24 < x.chars.length) (k : Nat) {i : Nat} (shown : i < 24) :
    (x.window k)[i]? = (x.chars ++ [' ', ' ', ' ', ' '])[(k + i) % (x.chars.length + 4)]? := by
  have circle : (x.chars ++ List.replicate 4 ' ').length = x.chars.length + 4 := by
    rw [List.length_append, List.length_replicate]
  have inside : (k + i) % (x.chars.length + 4) < (x.chars ++ List.replicate 4 ' ').length := by
    rw [circle]
    exact Nat.mod_lt _ (by omega)
  rw [window_scrolling long, List.getElem?_map, List.getElem?_range shown, Option.map_some, circle,
    List.getElem?_eq_getElem inside, Option.getD_some]
  exact (List.getElem?_eq_getElem inside).symm

theorem twoDigits_length (n : Nat) : (twoDigits n).length = 2 := by
  unfold twoDigits
  split <;> rfl

theorem idleCounts_length (standard large cabins : Nat) : (Text.idleCounts standard large cabins).chars.length = 24 := by
  show ("FREE ".toList ++ twoDigits standard ++ " STD ".toList ++ twoDigits large ++ " LRG CAB ".toList ++
    oneDigit cabins).length = 24
  simp [twoDigits_length, oneDigit]

end

section

/-! ### The strobes of a frame (R167) -/

variable {p : Panel}

theorem strobes_get {row : Nat} (mem : row ∈ [1, 2, 3, 4, 5, 6]) (green : Bool) :
    p.strobes[2 * (row - 1) + if green then 0 else 1]? = some (p.strobe row green) := by
  simp only [List.mem_cons, List.not_mem_nil, or_false] at mem
  rcases mem with here | here | here | here | here | here <;> rw [here] <;> cases green <;> rfl

theorem columns_length (cells : p.cells.length = 72) {row : Nat} (last : row ≤ 6) (green : Bool) :
    (p.columns row green).length = 12 := by
  unfold Panel.columns
  rw [List.length_map, List.length_take, List.length_drop, cells]
  omega

theorem lights_eq (colour : Colour) (green : Bool) :
    colour.lights green = decide (colour = .amber ∨ colour = if green then .green else .red) := by
  cases colour <;> cases green <;> rfl

theorem columns_get {row k : Nat} {colour : Colour} (after : 12 * (row - 1) < k) (before : k ≤ 12 * row)
    (cell : p.cells[k - 1]? = some colour) (green : Bool) :
    (p.columns row green)[k - 12 * (row - 1) - 1]? =
      some (decide (colour = .amber ∨ colour = if green then .green else .red)) := by
  have column : k - 12 * (row - 1) - 1 < 12 := by omega
  have place : 12 * (row - 1) + (k - 12 * (row - 1) - 1) = k - 1 := by omega
  unfold Panel.columns
  rw [List.getElem?_map, List.getElem?_take_of_lt column, List.getElem?_drop, place, cell, Option.map_some, lights_eq]

end

section

/-! ### The colours of the cells (R168 to R170, R172) -/

variable {s : Station} {frame : BitVec 6} {k : Nat}

/-- The colour in the frames in which a blink mode is lit. -/
def litColour (b : Bool) (x : Colour) : Colour := if b then x else .dark

theorem cells_get (after : 1 ≤ k) (last : k ≤ 72) :
    ((List.range 72).map fun i => s.cellColour frame (i + 1))[k - 1]? = some (s.cellColour frame k) := by
  rw [List.getElem?_map, List.getElem?_range (by omega), Option.map_some, Nat.sub_add_cancel after]

theorem cellColour_unmarked (cursor : s.panel.cursor ≠ some k) :
    s.cellColour frame k = (s.cellAttribute k).shown frame := if_neg fun marked => cursor marked.1

theorem shown_dark : Attribute.dark.shown frame = .dark := rfl

theorem cellAttribute_locker {l : Locker} (serves : s.restart.mode ≠ .strapFault) (cell : k ≤ 60)
    (locker : s.locker? k = some l) : s.cellAttribute k = s.lockerAttribute l := by
  refine (if_neg serves).trans ((if_pos cell).trans ?_)
  rw [locker]

theorem cellAttribute_cabin {c : Cabin} (serves : s.restart.mode ≠ .strapFault) (after : 60 < k) (cell : k ≤ 68)
    (cabin : s.cabin? (k - 60) = some c) : s.cellAttribute k = c.attribute := by
  refine (if_neg serves).trans ((if_neg (by omega)).trans ((if_pos cell).trans ?_))
  rw [cabin]

theorem cellAttribute_dark (locker : k ≤ 60 → s.locker? k = none)
    (cabin : 60 < k → k ≤ 68 → s.cabin? (k - 60) = none) : s.cellAttribute k = .dark := by
  unfold Station.cellAttribute
  split
  · rfl
  · split
    next first => rw [locker first]
    next beyond =>
      split
      next second => rw [cabin (by omega) second]
      next => rfl

theorem cellAttribute_strapFault (fault : s.restart.mode = .strapFault) : s.cellAttribute k = .dark := if_pos fault

theorem overstays_eq (n : Nat) : s.overstays n = (s.holdingAt n).any (·.overstay) := by
  unfold Station.overstays
  cases s.holdingAt n <;> rfl

theorem lockerAttribute_shown (l : Locker) :
    (s.lockerAttribute l).shown frame =
      if l.state = .outOfService then .dark
      else if l.forced then litColour (frame.toNat % 32 < 16) .amber
      else
        match l.state with
        | .free => .green
        | .claiming => litColour (frame.toNat % 32 < 16) .amber
        | .unbolting => litColour (frame.toNat % 32 < 16) .green
        | .unbolted => litColour (frame.toNat % 32 < 16) .green
        | .opened => litColour (frame.toNat < 32) .green
        | .locked => if (s.holdingAt l.number).any (·.overstay) then litColour (frame.toNat < 32) .red else .red
        | .unsecured => litColour (frame.toNat < 32) .amber
        | .jammed => .amber
        | .orphan => litColour (frame.toNat % 32 < 16) .red
        | .outOfService => .dark := by
  unfold Station.lockerAttribute
  split
  · rfl
  · split
    · rfl
    · rw [← overstays_eq]
      cases l.state with
      | locked =>
        dsimp only
        split <;> rfl
      | _ => rfl

theorem cabinAttribute_shown (c : Cabin) :
    c.attribute.shown frame =
      match c.state with
      | .free => .green
      | .reserved => litColour (frame.toNat % 32 < 16) .green
      | .admitting => litColour (frame.toNat % 32 < 16) .green
      | .occupied => if c.overstay then litColour (frame.toNat < 32) .red else .red
      | .fault => .amber
      | .outOfService => .dark := by
  unfold Cabin.attribute
  cases c.state with
  | occupied =>
    dsimp only
    split <;> rfl
  | _ => rfl

end

end Sys2Proof.Machine

/-!
PROOFS. The message line and the rows of the panel (O58).
-/

namespace Sys2Proof.Machine

open Sys2Proof

section

variable {s : Station} {x : Text}

theorem live_serves (live : s.live = true) : s.restart.mode ≠ .strapFault := by
  unfold Station.live at live
  exact of_decide_eq_true (Bool.and_eq_true_iff.1 live).2

/-! ### The text shown (R174, R176) -/

theorem postMessage_eq (m : Message) :
    s.postMessage m =
      { s with
        panel.message := some m
        panel.secondTurn := false
        panel.scroll := 0
        panel.stepCount := 0
        panel.holdEnd := some (s.now + 8000)
        panel.turnEnd := m.second.map fun _ => s.now + 2000
        panel.line := m.first.window 0 } := by
  unfold Station.postMessage
  cases m.second <;> rfl

/-- R174: the text of a message that has its turn. -/
def Message.turn (m : Message) (secondTurn : Bool) : Text :=
  match m.second with
  | some y => if secondTurn then y else m.first
  | none => m.first

theorem shownText_message {m : Message} (message : s.panel.message = some m) :
    s.shownText = m.turn s.panel.secondTurn := by
  unfold Station.shownText
  rw [message]
  rfl

theorem shownText_idle (empty : s.panel.message = none) : s.shownText = s.idleText := by
  unfold Station.shownText
  rw [empty]

theorem idleText_length (serves : s.restart.mode ≠ .strapFault) : s.idleText.chars.length ≤ 24 := by
  unfold Station.idleText
  cases mode : s.restart.mode with
  | strapFault => exact absurd mode serves
  | unset => show "NOT READY".toList.length ≤ 24; decide
  | recovering => show "NOT READY".toList.length ≤ 24; decide
  | run => exact (idleCounts_length _ _ _).le

theorem composeLine_eq (text : s.shownText = x) :
    s.composeLine = { s with panel.line := x.window s.panel.scroll } := by
  rw [← text]
  rfl

/-- R174: the other text of a pair has its turn from moment `u`. -/
def Station.turned (u : Moment) (s : Station) : Station :=
  { s.reach u with
    panel.secondTurn := !s.panel.secondTurn
    panel.scroll := 0
    panel.stepCount := 0
    panel.turnEnd := s.panel.nextTurn u }

theorem turnPair_eq {u : Moment} {y : Text} (turn : s.panel.turnEnd = some u)
    (message : s.panel.message = some { first := x, second := some y }) :
    s.turnPair =
      { s with
        now := max s.now u
        panel.secondTurn := !s.panel.secondTurn
        panel.scroll := 0
        panel.stepCount := 0
        panel.turnEnd := s.panel.holdEnd.bind fun h => if u + 2000 < h then some (u + 2000) else none
        panel.line := (if s.panel.secondTurn then x else y).window 0 } := by
  have other : (if (!s.panel.secondTurn) = true then y else x) = if s.panel.secondTurn = true then x else y := by
    cases s.panel.secondTurn <;> rfl
  have text : (s.turned u).shownText = if s.panel.secondTurn = true then x else y :=
    (shownText_message (s := s.turned u) message).trans other
  have turns : s.turnPair = (s.turned u).composeLine := by
    unfold Station.turnPair
    rw [turn]
    rfl
  exact turns.trans (composeLine_eq text)

/-! ### The scroll (R175) -/

theorem mod_circle {k length : Nat} (inside : k < length + 4) :
    (k + 1) % (length + 4) = if k + 1 = length + 4 then 0 else k + 1 := by
  split
  next last => rw [last, Nat.mod_self]
  next before => exact Nat.mod_eq_of_lt (by omega)

theorem scrollOn_moves (text : s.shownText = x) (long : 24 < x.chars.length) :
    s.scrollOn =
      { s with
        panel.stepCount := 0
        panel.scroll := (s.panel.scroll + 1) % (x.chars.length + 4)
        panel.line := x.window ((s.panel.scroll + 1) % (x.chars.length + 4)) } := by
  rw [← text] at long ⊢
  exact if_pos (decide_eq_true long)

theorem scrollOn_stays (text : s.shownText = x) (short : x.chars.length ≤ 24) :
    s.scrollOn = { s with panel.stepCount := 0 } := by
  rw [← text] at short
  exact if_neg fun scrolls => absurd (of_decide_eq_true scrolls) (by show ¬24 < s.shownText.chars.length; omega)

theorem scrollOn_stepCount : s.scrollOn.panel.stepCount = 0 := by
  unfold Station.scrollOn
  dsimp only
  split <;> rfl

theorem scrollOn_frame :
    s.scrollOn =
      { s with
        panel := { s.panel with
          stepCount := s.scrollOn.panel.stepCount
          scroll := s.scrollOn.panel.scroll
          line := s.scrollOn.panel.line } } := by
  unfold Station.scrollOn
  dsimp only
  split <;> rfl

/-! ### A frame (R167, R168, R175, R178) -/

theorem countFrame_counts (early : s.panel.stepCount < 11) :
    s.countFrame = { s.composeLine with panel.stepCount := s.panel.stepCount + 1 } :=
  if_neg (by show ¬11 ≤ s.panel.stepCount; omega)

theorem countFrame_steps (last : 11 ≤ s.panel.stepCount) : s.countFrame = s.composeLine.scrollOn := if_pos last

theorem countFrame_frame :
    s.countFrame =
      { s with
        panel := { s.panel with
          stepCount := s.countFrame.panel.stepCount
          scroll := s.countFrame.panel.scroll
          line := s.countFrame.panel.line } } := by
  rcases Nat.lt_or_ge s.panel.stepCount 11 with early | last
  · rw [countFrame_counts early]
    rfl
  · rw [countFrame_steps last]
    exact scrollOn_frame

theorem panelFrame_serving (running : s.restart.phase = .running) (serves : s.restart.mode ≠ .strapFault) :
    s.panelFrame = s.advanceFrame.countFrame :=
  (if_pos running).trans (if_neg serves)

theorem panelFrame_strapFault (running : s.restart.phase = .running) (fault : s.restart.mode = .strapFault) :
    s.panelFrame = s.advanceFrame :=
  (if_pos running).trans (if_pos fault)

theorem advanceFrame_dark (fault : s.restart.mode = .strapFault) (cursor : s.panel.cursor = none) :
    s.advanceFrame =
      { s with
        now := max s.now ((s.panel.frameDue + 7) / 8)
        panel.frame := s.panel.frame + 1
        panel.frameDue := s.panel.frameDue + 125
        panel.cells := List.replicate 72 .dark } := by
  have dark (k : Nat) : (s.reach (ofEighths s.panel.frameDue)).cellColour (s.panel.frame + 1) k = .dark := by
    refine (cellColour_unmarked ?_).trans ?_
    · show s.panel.cursor ≠ some k
      rw [cursor]
      exact nofun
    · rw [cellAttribute_strapFault (s := s.reach _) fault, shown_dark]
  have cells : ((List.range 72).map fun i =>
      (s.reach (ofEighths s.panel.frameDue)).cellColour (s.panel.frame + 1) (i + 1)) = List.replicate 72 .dark := by
    simp only [dark]
    rfl
  unfold Station.advanceFrame
  dsimp only
  rw [← cells]
  rfl

end

/-- Settles O58, row by row. -/
theorem panelRows : Obligations.PanelRows := by
  refine ⟨fun m s => postMessage_eq m, fun x k => ⟨fun short => window_still short k, fun long =>
    ⟨window_length long k, fun i shown => window_get long k shown⟩⟩, fun n s => rfl, fun p cells => ⟨rfl, ?_⟩,
    fun s running fault cursor => ?_, fun s live => ?_⟩
  · intro row mem green
    have last : row ≤ 6 := by
      simp only [List.mem_cons, List.not_mem_nil, or_false] at mem
      omega
    exact ⟨_, strobes_get mem green, rfl, rfl, rfl, columns_length cells last green,
      fun k colour after before cell => columns_get after before cell green⟩
  · refine runs_perform rfl ?_
    exact (panelFrame_strapFault (s := s.station.take _) running fault).trans (advanceFrame_dark fault cursor)
  have running := live_running live
  have serves := live_serves live
  intro idle
  have idles (b : Station) (there : b.restart.mode ≠ .strapFault) : b.idleText = idle b := by
    unfold Station.idleText
    dsimp only [idle]
    cases mode : b.restart.mode with
    | strapFault => exact absurd mode there
    | _ => rfl
  refine ⟨fun u timer => ?_, fun u hold => ?_, fun u x y turn message => ?_, fun off => ?_, fun x message => ?_, ?_⟩
  · refine runs_live rfl live ?_
    unfold Station.cursorEnd
    rw [show (s.station.take .cursorTimerExpiry).panel.cursorTimer = some u from timer]
    rfl
  · refine runs_live rfl live ?_
    unfold Station.holdEnd
    rw [show (s.station.take .messageHoldExpiry).panel.holdEnd = some u from hold]
    rw [← idles ((s.station.take _).reach u) serves]
    rfl
  · exact runs_live rfl live (turnPair_eq (s := s.station.take _) turn message)
  · refine runs_live rfl live ?_
    unfold Station.turnPair
    rw [show (s.station.take .pairTurn).panel.turnEnd = none from off]
  · have text : (s.station.take .scrollStep).shownText = x := shownText_message message
    refine ⟨fun long => runs_live rfl live ?_, fun short => runs_live rfl live (scrollOn_stays text short)⟩
    intro k inside
    rw [scrollOn_moves text long, mod_circle inside]
  · refine runs_perform rfl ?_
    rw [panelFrame_serving (s := s.station.take _) running serves]
    intro frame fast slow lit
    generalize advance : (s.station.take .panelFrame).advanceFrame = b
    have stepCount : b.panel.stepCount = s.station.panel.stepCount := by rw [← advance]; rfl
    have scroll : b.panel.scroll = s.station.panel.scroll := by rw [← advance]; rfl
    have early (few : s.station.panel.stepCount < 11) := countFrame_counts (s := b) (by rw [stepCount]; exact few)
    have steps (last : 11 ≤ s.station.panel.stepCount) := countFrame_steps (s := b) (by rw [stepCount]; exact last)
    have kept := countFrame_frame (s := b)
    have cells : b.countFrame.panel.cells = b.panel.cells := by rw [kept]
    have colour (k : Nat) (after : 1 ≤ k) (last : k ≤ 72) :
        b.countFrame.panel.cells[k - 1]? = some ((s.station.take .panelFrame).cellColour frame k) := by
      rw [cells, ← advance]
      exact cells_get (s := (s.station.take .panelFrame).reach _) after last
    refine ⟨?_, fun few => ?_, fun last => ?_, fun m message => ?_, fun empty start => ?_, ?_, ?_, ?_, ?_⟩
    · rw [cells]
      subst advance
      exact kept
    · rw [early few]
      exact ⟨scroll, congrArg (· + 1) stepCount⟩
    · rw [steps last.ge]
      exact scrollOn_stepCount
    · intro x
      have text : b.shownText = x := by
        subst advance
        exact shownText_message (s := (s.station.take .panelFrame).advanceFrame) message
      refine ⟨fun few => ?_, fun last => ⟨fun long inside => ?_, fun short => ?_⟩⟩
      · rw [early few, composeLine_eq text]
        exact congrArg x.window scroll
      · rw [steps last.ge, scrollOn_moves (s := b.composeLine) text long]
        have moved := (congrArg (fun k => (k + 1) % (x.chars.length + 4)) scroll).trans (mod_circle inside)
        exact ⟨moved, rfl⟩
      · rw [steps last.ge, scrollOn_stays (s := b.composeLine) text short, composeLine_eq text]
        exact ⟨scroll, congrArg x.window scroll⟩
    · have there : b.restart.mode ≠ .strapFault := by
        subst advance
        exact serves
      have text : b.shownText = b.idleText := shownText_idle (by
        subst advance
        exact empty)
      have same : b.idleText = idle ((s.station.take .panelFrame).reach ((s.station.panel.frameDue + 7) / 8)) := by
        subst advance
        exact idles _ serves
      have short := idleText_length there
      have line : b.countFrame.panel.line = b.idleText.window b.panel.scroll := by
        rcases Nat.lt_or_ge s.station.panel.stepCount 11 with few | last
        · rw [early few, composeLine_eq text]
        · rw [steps last, scrollOn_stays (s := b.composeLine) text short, composeLine_eq text]
      exact line.trans (congrArg₂ Text.window same (scroll.trans start))
    · rw [cells, ← advance]
      rfl
    · intro k after last cursor locker cabin
      rw [colour k after last, cellColour_unmarked cursor, cellAttribute_dark locker cabin, shown_dark]
    · intro k l after last locker
      refine (colour k after (by omega)).trans (congrArg some ?_)
      refine if_congr Iff.rfl rfl ?_
      rw [cellAttribute_locker (s := s.station.take _) serves last locker, lockerAttribute_shown]
      rfl
    · intro k c after last cabin cursor
      have cell : 60 + k - 60 = k := by omega
      have place : 59 + k = 60 + k - 1 := by omega
      rw [place, colour (60 + k) (by omega) (by omega), cellColour_unmarked cursor,
        cellAttribute_cabin (s := s.station.take _) serves (by omega) (by omega) (by rw [cell]; exact cabin), cabinAttribute_shown]
      rfl

end Sys2Proof.Machine

/-!
PROOFS. In STRAP_FAULT no command but the loss of the logic supply changes the retained state (for O59).
-/

namespace Sys2Proof.Machine

open Sys2Proof

/-- R192: the station mode is STRAP_FAULT, and no request, frame or report stands. -/
structure Station.Faulted (s : Station) : Prop where
  running : s.restart.phase = .running
  mode    : s.restart.mode = .strapFault
  still   : s.Still

section

variable {s : Station}

theorem Station.Faulted.dead (faulted : s.Faulted) : s.live = false := by
  unfold Station.live
  rw [faulted.mode]
  exact Bool.and_eq_false_iff.2 (.inr rfl)

theorem Station.Faulted.take (faulted : s.Faulted) (c : Instr) : (s.take c).Faulted :=
  ⟨faulted.running, faulted.mode, faulted.still.requests, faulted.still.frames, faulted.still.reports⟩

/-! ### The rows that act in STRAP_FAULT -/

theorem discardRecord_retained (fault : s.restart.mode = .strapFault) (r : Reader) :
    (s.discardRecord r).retained = s.retained :=
  refuseTap_retained (s := s.changeInput r _) fault

theorem readerBreak_retained (faulted : s.Faulted) (r : Reader) : (s.readerBreak r).retained = s.retained := by
  unfold Station.readerBreak
  dsimp only
  split
  · exact refuseTap_retained (s := s.changeInput r _) faulted.mode
  · rfl

theorem readerCharacter_retained (faulted : s.Faulted) (r : Reader) (b : Byte) (stop : Bool) :
    (s.readerCharacter r b stop).retained = s.retained := by
  unfold Station.readerCharacter
  split
  · rfl
  · split
    · exact discardRecord_retained faulted.mode r
    · split
      · rfl
      · unfold Station.recordComplete
        rw [if_pos (show (s.changeInput r _).restart.mode = .strapFault from faulted.mode)]
        rfl

theorem characterTimeout_retained (faulted : s.Faulted) (r : Reader) :
    (s.characterTimeout r).retained = s.retained := by
  unfold Station.characterTimeout
  split
  · rfl
  · exact discardRecord_retained (s := s.reach _) faulted.mode r

theorem panelFrame_retained (faulted : s.Faulted) : s.panelFrame.retained = s.retained := by
  rw [panelFrame_strapFault faulted.running faulted.mode]
  rfl

theorem driveFault_retained (faulted : s.Faulted) (g : Nat) (active : Bool) :
    (s.driveFault g active).retained = s.retained := by
  have stopped : ({ s with drive.inputs := groupBit g active s.drive.inputs } : Station).live = false := faulted.dead
  unfold Station.driveFault
  dsimp only
  rw [stopped]
  rfl

theorem abortDrives_retained (still : s.drive.queue = []) (p : DriveRequest → Bool) :
    (s.abortDrives p).retained = s.retained := by
  unfold Station.abortDrives
  simp only [still, List.filter_nil, List.foldl_nil, List.map_nil]
  rfl

theorem supplyLow_retained (faulted : s.Faulted) : s.supplyLow.retained = s.retained := by
  unfold Station.supplyLow
  dsimp only
  split
  · rfl
  · exact abortDrives_retained (s := { s with restart.driveSupply := .low, restart.holdDown := true, restart.releaseAt := none })
      faulted.still.requests _

theorem releaseHoldDown_retained (faulted : s.Faulted) : s.releaseHoldDown.retained = s.retained := by
  have tested (u : Station) (empty : u.drive.queue = []) (same : u.retained = s.retained) :
      u.grantTest.retained = s.retained := by
    rw [show u.grantTest = u by simp [Station.grantTest, empty, grants], same]
  unfold Station.releaseHoldDown
  split
  · rfl
  · exact tested _ faulted.still.requests rfl

theorem endCause_running (running : s.restart.phase = .running) : s.endCause = s := by
  unfold Station.endCause
  rw [running]

theorem causeArrives_retained (cause : StartCause) : (s.causeArrives cause).retained = s.retained := by
  unfold Station.causeArrives
  split
  · rfl
  · exact retained_loseVolatile (s := s)

theorem whenTracking_faulted (faulted : s.Faulted) (f : Station → Station) : whenTracking f s = s := by
  unfold whenTracking
  rw [faulted.dead, faulted.running]
  rfl

theorem whenReceiving_faulted (faulted : s.Faulted) (f : Station → Station) : whenReceiving f s = f s :=
  if_pos faulted.running

theorem serving_faulted (faulted : s.Faulted) : s.serving = false := serving_dead faulted.dead

end

/-! ### Every command -/

section

variable {s : Station} {c : Instr} {f : Station → Station}

theorem retained_of_perform (faulted : s.Faulted) (meaning : ∀ u, exec c u = perform c f u)
    (keeps : ∀ t : Station, t.Faulted → (f t).retained = t.retained) : (effect c s).retained = s.retained := by
  rw [effect_perform meaning]
  exact keeps _ (faulted.take c)

theorem retained_of_performFinish (faulted : s.Faulted) (meaning : ∀ u, exec c u = performFinish c f u)
    (keeps : ∀ t : Station, t.Faulted → (f t).retained = t.retained ∧ (f t).link.reports = []) :
    (effect c s).retained = s.retained := by
  obtain ⟨kept, settled⟩ := keeps _ (faulted.take c)
  rw [effect_performFinish meaning, finish_settled _ settled]
  exact kept

theorem retained_of_live (faulted : s.Faulted) (meaning : ∀ u, exec c u = perform c (whenLive f) u) :
    (effect c s).retained = s.retained :=
  retained_of_perform faulted meaning fun t quiet => by rw [whenLive_dead quiet.dead]

theorem retained_of_liveFinish (faulted : s.Faulted) (meaning : ∀ u, exec c u = performFinish c (whenLive f) u) :
    (effect c s).retained = s.retained :=
  retained_of_performFinish faulted meaning fun t quiet => by
    rw [whenLive_dead quiet.dead]
    exact ⟨rfl, quiet.still.reports⟩

theorem retained_of_receiving (faulted : s.Faulted) (meaning : ∀ u, exec c u = perform c (whenReceiving f) u)
    (keeps : ∀ t : Station, t.Faulted → (f t).retained = t.retained) : (effect c s).retained = s.retained :=
  retained_of_perform faulted meaning fun t quiet => by
    rw [whenReceiving_faulted quiet]
    exact keeps t quiet

end

theorem supplyRestored_faulted {s : Station} (faulted : s.Faulted) (strap : BitVec 5) (zone : BitVec 3) :
    s.supplyRestored strap zone =
      { s with restart.logicSupply := .normal, restart.strapPins := strap, restart.zonePins := zone } := by
  refine (if_neg ?_).trans (endCause_running faulted.running)
  show s.restart.phase ≠ .off
  rw [faulted.running]
  exact nofun

theorem warmEnd_running {s : Station} (running : s.restart.phase = .running) (strap : BitVec 5) (zone : BitVec 3)
    (damage : BitVec 16) : s.warmEnd strap zone damage = s := by
  unfold Station.warmEnd
  rw [running]

/-- R192, R195: in STRAP_FAULT only the loss of the logic supply changes the retained state. -/
theorem effect_retained (c : Instr) (stands : c ≠ .logicSupplyLost) {s : Station} (faulted : s.Faulted) :
    (effect c s).retained = s.retained := by
  match c with
  | .readerBreak r => exact retained_of_receiving faulted (fun _ => rfl) fun t quiet => readerBreak_retained quiet r
  | .readerCharacter r b stop =>
    exact retained_of_receiving faulted (fun _ => rfl) fun t quiet => readerCharacter_retained quiet r b stop
  | .readerCharacterTimeout r =>
    exact retained_of_receiving faulted (fun _ => rfl) fun t quiet => characterTimeout_retained quiet r
  | .lockerTap tap =>
    refine retained_of_performFinish faulted (f := fun t => if t.serving then (t.reach tap.time).lockerTap tap else t)
      (fun _ => rfl) fun t quiet => ?_
    rw [serving_faulted quiet]
    exact ⟨rfl, quiet.still.reports⟩
  | .cabinTap n tap =>
    refine retained_of_perform faulted (f := fun t => if t.serving then (t.reach tap.time).cabinTap n tap else t)
      (fun _ => rfl) fun t quiet => ?_
    rw [serving_faulted quiet]
    rfl
  | .dominantWatchExpiry =>
    refine retained_of_performFinish faulted (fun _ => rfl) fun t quiet => ?_
    rw [whenTracking_faulted quiet]
    exact ⟨rfl, quiet.still.reports⟩
  | .recessiveSpan =>
    refine retained_of_perform faulted (fun _ => rfl) fun t quiet => ?_
    rw [whenTracking_faulted quiet]
  | .driveFault g active =>
    refine retained_of_performFinish faulted (fun _ => rfl) fun t quiet => ⟨driveFault_retained quiet g active, ?_⟩
    exact (driveFault_still quiet.still quiet.dead g active).reports
  | .driveSupplyLow =>
    exact retained_of_performFinish faulted (fun _ => rfl) fun t quiet =>
      ⟨supplyLow_retained quiet, (supplyLow_still quiet.still).reports⟩
  | .driveSupplyRise => exact retained_of_perform faulted (f := Station.supplyRise) (fun _ => rfl) fun _ _ => rfl
  | .driveSupplySag => exact retained_of_perform faulted (f := Station.supplySag) (fun _ => rfl) fun _ _ => rfl
  | .holdDownRelease => exact retained_of_perform faulted (fun _ => rfl) fun t quiet => releaseHoldDown_retained quiet
  | .resetLineHigh =>
    refine retained_of_perform faulted
      (f := fun t => ({ t with restart.resetLineLow := false } : Station).endCause) (fun _ => rfl) fun t quiet => ?_
    rw [endCause_running (s := { t with restart.resetLineLow := false }) quiet.running]
    rfl
  | .panelFrame =>
    exact retained_of_perform faulted (f := Station.panelFrame) (fun _ => rfl) fun t quiet => panelFrame_retained quiet
  | .logicSupplyLow =>
    exact retained_of_perform faulted
      (f := fun t => ({ t with restart.logicSupply := .low } : Station).causeArrives .supplyLow) (fun _ => rfl)
      fun t _ => causeArrives_retained (s := { t with restart.logicSupply := .low }) _
  | .resetLineLow =>
    exact retained_of_perform faulted
      (f := fun t => ({ t with restart.resetLineLow := true } : Station).causeArrives .resetLine) (fun _ => rfl)
      fun t _ => causeArrives_retained (s := { t with restart.resetLineLow := true }) _
  | .logicSupplyLost => exact absurd rfl stands
  | .logicSupplyRestored strap zone =>
    refine retained_of_performFinish faulted (f := Station.supplyRestored strap zone) (fun _ => rfl) fun t quiet => ?_
    rw [supplyRestored_faulted quiet]
    exact ⟨rfl, quiet.still.reports⟩
  | .warmStartEnd strap zone damage =>
    refine retained_of_performFinish faulted (f := Station.warmEnd strap zone damage) (fun _ => rfl) fun t quiet => ?_
    rw [warmEnd_running quiet.running]
    exact ⟨rfl, quiet.still.reports⟩
  | .frameAttemptStart | .arbitrationLost | .frameSpoiled _ _ | .frameBroken _ | .neighbourStale _
  | .redirectRecordExpiry _ | .minuteTick | .boltWaitExpiry _ | .doorOpened _ | .doorClosed _ | .boltEvent _ _
  | .pullEnd _ | .jamRestEnd _ | .slotRestEnd _ | .cabinClockTick | .graceExpiry _ | .admitTimerExpiry _
  | .vacateTimerExpiry _ | .presenceSeen _ | .presenceConfirmed _ | .presenceClear _ | .latchEvent _ _
  | .cursorTimerExpiry | .messageHoldExpiry | .pairTurn | .scrollStep | .recoveryWindowExpiry | .filterLoadEnd
  | .senseSample _ => exact retained_of_live faulted fun _ => rfl
  | .claimSendDeadline _ | .claimWindowEnd _ | .bitError | .ownFrameDelivered | .attemptSpoiled
  | .frameDiscarded _ _ _ | .heldReceived _ _ | .yieldReceived _ _ | .freeReceived _ _ | .claimReceived _ _
  | .recountReceived _ _ | .recallReceived _ _ | .tallyReceived _ _ | .orderBadCode _ _ | .setupLockers _
  | .setupCabins _ | .setDay _ | .openLocker _ | .endHolding _ | .lockerServiceOff _ | .lockerServiceOn _
  | .cabinServiceOff _ | .cabinServiceOn _ | .clearFaultLocker _ | .clearFaultCabin _ | .clearFaultGroup _
  | .takeCountersSnapshot _ | .readCounters _ | .readLocker _ | .readCabins _ | .findParty _ | .restart _
  | .restartWaitExpiry | .tallyTimer | .grantWaitExpiry _ | .doorWaitExpiry _ =>
    exact retained_of_liveFinish faulted fun _ => rfl

end Sys2Proof.Machine

/-!
PROOFS. How a warm start begins, a cold start, and the rows that end a start's cause (for O59).
-/

namespace Sys2Proof.Machine

open Sys2Proof

section

variable {s : Station}

/-! ### A start begins (R195) -/

theorem causeArrives_begins (on : s.restart.phase ≠ .off) (cause : StartCause) :
    s.causeArrives cause = s.beginWarm cause := if_neg on

theorem beginWarm_retentionCheck (cause : StartCause) : (s.beginWarm cause).retentionCheck = s.retentionCheck :=
  congrArg Config.retentionCheck (retained_loseVolatile s)

/-! ### The cause of a start ends (R195) -/

theorem endCause_warm {cause : StartCause} (warm : s.restart.phase = .warm cause) :
    s.endCause =
      { s with
        deliveries :=
          if s.causeEnded cause = true then
            s.deliveries ++ [.warmStartEnd s.restart.strapPins s.restart.zonePins 0]
          else s.deliveries } := by
  unfold Station.endCause
  rw [warm]
  dsimp only
  split <;> rfl

theorem endCause_idle (idle : s.restart.phase ∈ [.off, .running]) : s.endCause = s := by
  unfold Station.endCause
  rcases List.mem_pair.1 idle with off | running
  · rw [off]
  · rw [running]

theorem causeEnded_supplyLow : s.causeEnded .supplyLow = decide (s.restart.logicSupply = .normal) := rfl

theorem causeEnded_resetLine :
    s.causeEnded .resetLine = (!s.restart.resetLineLow && decide (s.restart.logicSupply = .normal)) := rfl

theorem supplyRestored_warm {cause : StartCause} (warm : s.restart.phase = .warm cause) (strap : BitVec 5)
    (zone : BitVec 3) :
    s.supplyRestored strap zone =
      ({ s with
          restart.logicSupply := .normal
          restart.strapPins := strap
          restart.zonePins := zone } : Station).endCause :=
  if_neg (by
    show s.restart.phase ≠ .off
    rw [warm]
    exact nofun)

theorem supplyRestored_cold (off : s.restart.phase = .off) (strap : BitVec 5) (zone : BitVec 3) :
    s.supplyRestored strap zone =
      ({ s with
          restart.logicSupply := .normal
          restart.strapPins := strap
          restart.zonePins := zone } : Station).coldStart .powerOn strap zone := if_pos off

theorem warmEnd_waits {cause : StartCause} (warm : s.restart.phase = .warm cause) (lasts : s.causeEnded cause = false)
    (strap : BitVec 5) (zone : BitVec 3) (damage : BitVec 16) : s.warmEnd strap zone damage = s := by
  unfold Station.warmEnd
  rw [warm]
  dsimp only
  exact if_neg (by rw [lasts]; exact Bool.false_ne_true)

/-- The pins are read at the end of a warm start (R192). -/
def Station.pinsRead (strap : BitVec 5) (zone : BitVec 3) (s : Station) : Station :=
  { s with restart.strapPins := strap, restart.zonePins := zone }

theorem warmEnd_ends {cause : StartCause} (warm : s.restart.phase = .warm cause) (ended : s.causeEnded cause = true)
    (strap : BitVec 5) (zone : BitVec 3) (damage : BitVec 16) :
    s.warmEnd strap zone damage =
      if s.retentionCheck ^^^ damage = s.restart.check then (s.pinsRead strap zone).completeWarm cause strap zone
      else (s.pinsRead strap zone).coldStart .retentionBad strap zone := by
  have kept : (s.pinsRead strap zone).keptCheck = s.restart.check := if_neg (by
    show s.restart.phase ≠ .running
    rw [warm]
    exact nofun)
  unfold Station.warmEnd
  rw [warm]
  dsimp only
  refine (if_pos ended).trans ?_
  exact if_congr (iff_of_eq (congrArg (fun check => s.retentionCheck ^^^ damage = check) kept)) rfl rfl

theorem causeEnded_all {cause : StartCause} (listed : cause ∈ [.supplyLow, .resetLine, .ordered])
    (normal : s.restart.logicSupply = .normal) (high : s.restart.resetLineLow = false) :
    s.causeEnded cause = true := by
  simp only [List.mem_cons, List.not_mem_nil, or_false] at listed
  rcases listed with supply | line | ordered
  · rw [supply, causeEnded_supplyLow, normal]
    rfl
  · rw [line, causeEnded_resetLine, normal, high]
    rfl
  · rw [ordered]
    rfl

/-! ### A cold start (R193) -/

theorem validStrap_iff {strap : BitVec 5} : validStrap strap = true ↔ 1 ≤ strap.toNat ∧ strap.toNat ≤ 27 := by
  unfold validStrap
  rw [Bool.and_eq_true, decide_eq_true_eq, decide_eq_true_eq]

theorem invalidStrap {strap : BitVec 5} (out : strap.toNat = 0 ∨ 28 ≤ strap.toNat) : validStrap strap = false := by
  refine Bool.eq_false_iff.2 fun valid => ?_
  obtain ⟨least, last⟩ := validStrap_iff.1 valid
  omega

/-- R193: what a cold start leaves, but for the mode that the straps give. -/
structure Station.Cold (cause : StartCause) (strap : BitVec 5) (zone : BitVec 3) (s t : Station) : Prop where
  phase      : t.restart.phase = .running
  station    : t.restart.station = strap.toNat
  zone       : t.restart.zone = zone
  cause      : t.restart.cause = cause
  warmStarts : t.restart.warmStarts = 0
  holdDown   : t.restart.holdDown = true
  releaseAt  : t.restart.releaseAt = if s.restart.driveSupply = .high then some (s.now + 100) else none
  lockers    : t.lockers.lockers = [] ∧ t.lockers.holdings = [] ∧ t.lockers.minute = 0
  claims     : t.claims.claims = []
  cache      : t.directory.cache = []
  cabins     : t.cabins.cabins = [] ∧ t.cabins.queue = [] ∧ t.cabins.dwell = 0
  requests   : t.drive.queue = []
  up         : t.link.up = true
  reports    : t.link.reports = []
  counters   : t.counters = Counters.zero
  held       : t.taps.heldRefused = 0
  snapshot   : t.orders.snapshot = Counters.zero
  locks      : t.orders.lockersLockClosed = false ∧ t.orders.cabinsLockClosed = false
  interval   : t.orders.setup.filterInterval = 8
  message    : t.panel.message = none

theorem coldStart_valid (cause : StartCause) {strap : BitVec 5} (valid : validStrap strap = true) (zone : BitVec 3) :
    s.Cold cause strap zone (s.coldStart cause strap zone) ∧
      (s.coldStart cause strap zone).restart.mode = .unset ∧
      (s.coldStart cause strap zone).drive.latches = s.drive.inputs ∧
      (s.coldStart cause strap zone).link.queue.map (·.kind) = [.tally] ∧
      (s.coldStart cause strap zone).panel.line = Text.notReady.window 0 := by
  unfold Station.coldStart
  dsimp only
  rw [valid]
  exact ⟨⟨rfl, rfl, rfl, rfl, rfl, rfl, rfl, ⟨rfl, rfl, rfl⟩, rfl, rfl, ⟨rfl, rfl, rfl⟩, rfl, rfl, rfl, rfl, rfl, rfl,
    ⟨rfl, rfl⟩, rfl, rfl⟩, rfl, rfl, rfl, rfl⟩

theorem coldStart_invalid (cause : StartCause) {strap : BitVec 5} (invalid : validStrap strap = false)
    (zone : BitVec 3) :
    s.Cold cause strap zone (s.coldStart cause strap zone) ∧
      (s.coldStart cause strap zone).restart.mode = .strapFault ∧
      (s.coldStart cause strap zone).link.queue = [] ∧
      (s.coldStart cause strap zone).panel.line = Text.strapFault.window 0 := by
  unfold Station.coldStart
  dsimp only
  rw [invalid]
  exact ⟨⟨rfl, rfl, rfl, rfl, rfl, rfl, rfl, ⟨rfl, rfl, rfl⟩, rfl, rfl, ⟨rfl, rfl, rfl⟩, rfl, rfl, rfl, rfl, rfl, rfl,
    ⟨rfl, rfl⟩, rfl, rfl⟩, rfl, rfl, rfl⟩

end

end Sys2Proof.Machine

/-!
PROOFS. What the blocks queue as they resume: the YIELDs of voided claims, the announcements and the RECALL (for O59).
-/

namespace Sys2Proof.Machine

open Sys2Proof

/-! ### Frames added with room -/

/-- At most `n` frames have been added to the queue, of the kinds given, and none has left it or been reported. -/
structure Added (kinds : List Kind) (n : Nat) (s t : Station) : Prop where
  up      : t.link.up = s.link.up
  reports : t.link.reports = s.link.reports
  length  : t.link.queue.length ≤ s.link.queue.length + n
  keeps   : ∀ f ∈ s.link.queue, f ∈ t.link.queue
  kinds   : ∀ f ∈ t.link.queue, f ∈ s.link.queue ∨ f.kind ∈ kinds

namespace Added

variable {s t u : Station} {kinds : List Kind} {n m : Nat}

theorem of_link (same : t.link = s.link) : Added kinds n s t := by
  refine ⟨?_, ?_, ?_, fun f mem => ?_, fun f mem => .inl ?_⟩
  · rw [same]
  · rw [same]
  · rw [same]
    exact Nat.le_add_right _ _
  · rw [same]
    exact mem
  · rw [← same]
    exact mem

theorem trans (first : Added kinds n s t) (next : Added kinds m t u) : Added kinds (n + m) s u := by
  refine ⟨next.up.trans first.up, next.reports.trans first.reports, ?_, fun f mem => next.keeps f (first.keeps f mem),
    fun f mem => ?_⟩
  · have first := first.length
    have next := next.length
    omega
  · exact (next.kinds f mem).elim (first.kinds f) .inr

theorem wider {more : List Kind} (added : Added kinds n s t) (fewer : n ≤ m) (within : ∀ k ∈ kinds, k ∈ more) :
    Added more m s t :=
  ⟨added.up, added.reports, added.length.trans (Nat.add_le_add_left fewer _), added.keeps,
    fun f mem => (added.kinds f mem).imp_right (within f.kind)⟩

end Added

section

variable {s : Station}

/-- A frame that replaces no TALLY and finds room is added. -/
theorem offer_added (kind : Kind) (content : List Byte) (owner : Owner) (role : Role)
    (up : s.link.up = true ∨ kind = .recall ∨ kind = .report)
    (fresh : ∀ f ∈ s.link.queue, f.kind ≠ .tally) (room : s.link.queue.length < 12) :
    Added [kind] 1 s (s.offer kind content owner role) ∧
      s.newFrame kind content owner role ∈ (s.offer kind content owner role).link.queue := by
  have alone : ¬(kind = .tally ∧ waitingTally s.link.queue = true) := fun ⟨_, waits⟩ => by
    obtain ⟨f, mem, tally⟩ := List.any_eq_true.1 waits
    exact fresh f mem (of_decide_eq_true (Bool.and_eq_true_iff.1 tally).1)
  rw [offer_enters s kind content owner role up alone room]
  refine ⟨⟨rfl, rfl, ?_, fun f mem => mem_insertFrame.2 (.inr mem), fun f mem => ?_⟩, mem_insertFrame.2 (.inl rfl)⟩
  · exact (insertFrame_length _ _).le
  · rcases mem_insertFrame.1 mem with new | old
    · rw [new]
      exact .inr List.mem_cons_self
    · exact .inl old

end

/-! ### The claims are voided (R67) -/

section

variable {s : Station}

theorem satInc_toNat (x : BitVec 16) : (satInc x).toNat = min 65535 (x.toNat + 1) := by
  rw [satInc_word]
  split
  next full =>
    rw [full]
    rfl
  next below =>
    have short : x.toNat ≠ 65535 := fun same => below (BitVec.eq_of_toNat_eq same)
    have bound := x.isLt
    rw [BitVec.toNat_add]
    show (x.toNat + 1) % 2 ^ 16 = _
    omega

/-- R67: what a voided claim can change. -/
theorem voidClaim_frame (c : Claim) :
    s.voidClaim c =
      { s with
        link := (s.voidClaim c).link
        claims.yielded := (s.voidClaim c).claims.yielded
        claims.failed := (s.voidClaim c).claims.failed } := by
  unfold Station.voidClaim
  split
  · rfl
  · unfold Station.offerIfUp
    split
    · rw [offer_frame]
      rfl
    · rfl

theorem voidClaim_queued {c : Claim} (queued : c.state = .queued) : s.voidClaim c = s.countFailed := by
  unfold Station.voidClaim
  rw [queued]

theorem voidClaim_sent {c : Claim} {w : Moment} (sent : c.state = .sent w) :
    s.voidClaim c =
      s.countYielded.offerIfUp .yield (partyBytes c.party ++ [oneByte c.locker]) .claimUnit := by
  unfold Station.voidClaim
  rw [sent]
  rfl

theorem offerIfUp_claims (kind : Kind) (content : List Byte) (owner : Owner) :
    (s.offerIfUp kind content owner).claims = s.claims := by
  unfold Station.offerIfUp
  split
  · exact offer_claims s _ _ _ _
  · rfl

theorem voidClaim_counts (c : Claim) :
    (s.voidClaim c).claims.yielded.toNat =
        min 65535 (s.claims.yielded.toNat + [c].countP fun c => decide (c.state ≠ .queued)) ∧
      (s.voidClaim c).claims.failed.toNat =
        min 65535 (s.claims.failed.toNat + [c].countP fun c => decide (c.state = .queued)) := by
  have yielded := s.claims.yielded.isLt
  have failed := s.claims.failed.isLt
  cases state : c.state with
  | queued =>
    rw [voidClaim_queued state]
    refine ⟨?_, ?_⟩
    · rw [List.countP_singleton, state]
      show s.claims.yielded.toNat = min 65535 s.claims.yielded.toNat
      omega
    · rw [List.countP_singleton, state]
      exact satInc_toNat _
  | sent w =>
    rw [voidClaim_sent state, offerIfUp_claims]
    refine ⟨?_, ?_⟩
    · rw [List.countP_singleton, state]
      exact satInc_toNat _
    · rw [List.countP_singleton, state]
      show s.claims.failed.toNat = min 65535 s.claims.failed.toNat
      omega

theorem voidClaim_down (down : s.link.up = false) (c : Claim) : (s.voidClaim c).link = s.link := by
  cases state : c.state with
  | queued =>
    rw [voidClaim_queued state]
    rfl
  | sent w =>
    rw [voidClaim_sent state, offerIfUp_down (s := s.countYielded) down]
    rfl

theorem voidClaim_added (up : s.link.up = true) (fresh : ∀ f ∈ s.link.queue, f.kind ≠ .tally)
    (room : s.link.queue.length < 12) (c : Claim) :
    Added [.yield] 1 s (s.voidClaim c) ∧
      ∀ w, c.state = .sent w → ∃ f ∈ (s.voidClaim c).link.queue,
        f.kind = .yield ∧ f.content = partyBytes c.party ++ [oneByte c.locker] := by
  cases state : c.state with
  | queued =>
    rw [voidClaim_queued state]
    exact ⟨.of_link rfl, nofun⟩
  | sent w =>
    obtain ⟨added, here⟩ := offer_added (s := s.countYielded) .yield (partyBytes c.party ++ [oneByte c.locker])
      .claimUnit .plain (.inl up) fresh room
    rw [voidClaim_sent state, offerIfUp_up (s := s.countYielded) up]
    exact ⟨(Added.of_link (n := 0) (kinds := [.yield]) rfl : Added _ 0 s s.countYielded).trans added |>.wider (by omega)
      fun _ => id, fun _ _ => ⟨_, here, rfl, rfl⟩⟩

/-- R67: what the voiding of claims can change. -/
theorem voidFold_frame (claims : List Claim) (u : Station) :
    claims.foldl Station.voidClaim u =
      { u with
        link := (claims.foldl Station.voidClaim u).link
        claims.yielded := (claims.foldl Station.voidClaim u).claims.yielded
        claims.failed := (claims.foldl Station.voidClaim u).claims.failed } := by
  induction claims generalizing u with
  | nil => rfl
  | cons c claims ih =>
    rw [List.foldl_cons, ih, voidClaim_frame c]

theorem voidFold_counts (claims : List Claim) (u : Station) :
    (claims.foldl Station.voidClaim u).claims.yielded.toNat =
        min 65535 (u.claims.yielded.toNat + claims.countP fun c => decide (c.state ≠ .queued)) ∧
      (claims.foldl Station.voidClaim u).claims.failed.toNat =
        min 65535 (u.claims.failed.toNat + claims.countP fun c => decide (c.state = .queued)) := by
  induction claims generalizing u with
  | nil =>
    have yielded := u.claims.yielded.isLt
    have failed := u.claims.failed.isLt
    simp only [List.foldl_nil, List.countP_nil]
    omega
  | cons c claims ih =>
    obtain ⟨yielded, failed⟩ := voidClaim_counts (s := u) c
    obtain ⟨yieldedRest, failedRest⟩ := ih (u.voidClaim c)
    have split (p : Claim → Bool) : (c :: claims).countP p = [c].countP p + claims.countP p :=
      List.countP_append (l₁ := [c])
    rw [List.foldl_cons, yieldedRest, failedRest, yielded, failed, split, split]
    omega

theorem voidFold_down (claims : List Claim) (u : Station) (down : u.link.up = false) :
    (claims.foldl Station.voidClaim u).link = u.link := by
  induction claims generalizing u with
  | nil => rfl
  | cons c claims ih =>
    have same := voidClaim_down down c
    exact (ih (u.voidClaim c) (by rw [same]; exact down)).trans same

theorem voidFold_added (claims : List Claim) (u : Station) (up : u.link.up = true)
    (fresh : ∀ f ∈ u.link.queue, f.kind ≠ .tally) (room : u.link.queue.length + claims.length ≤ 12) :
    Added [.yield] claims.length u (claims.foldl Station.voidClaim u) ∧
      ∀ c ∈ claims, ∀ w, c.state = .sent w → ∃ f ∈ (claims.foldl Station.voidClaim u).link.queue,
        f.kind = .yield ∧ f.content = partyBytes c.party ++ [oneByte c.locker] := by
  induction claims generalizing u with
  | nil => exact ⟨.of_link rfl, nofun⟩
  | cons c claims ih =>
    rw [List.length_cons] at room ⊢
    obtain ⟨first, yields⟩ := voidClaim_added up fresh (by omega) c
    have length := first.length
    obtain ⟨rest, others⟩ := ih (u.voidClaim c) (first.up.trans up) (fun f mem => by
      rcases first.kinds f mem with old | new
      · exact fresh f old
      · rw [List.mem_singleton.1 new]
        exact nofun) (by omega)
    refine ⟨(first.trans rest).wider (by omega) fun _ => id, fun d mem w sent => ?_⟩
    rcases List.mem_cons.1 mem with here | there
    · obtain ⟨f, stands, kind⟩ := yields w (here ▸ sent)
      exact ⟨f, rest.keeps f stands, here ▸ kind⟩
    · exact others d there w sent

end

end Sys2Proof.Machine

/-!
PROOFS. The announcement walk that resumes: what it adds to the queue, and the holdings it announces (for O59).
-/

namespace Sys2Proof.Machine

open Sys2Proof

section

variable {s t : Station}

/-! ### The frames of a walk (R64) -/

theorem walkOne_cases (step : s.walkOne = some t) :
    t = { s with claims.walk := none } ∨
      s.claims.announcements.length < 2 ∧ ∃ h, t = s.announce h := by
  unfold Station.walkOne at step
  split at step
  · cases step
  · split at step
    next few =>
      split at step
      · exact .inl (Option.some.inj step).symm
      next h _ => exact .inr ⟨few, h, (Option.some.inj step).symm⟩
    · cases step

theorem announce_announcements (h : Holding) :
    (s.announce h).claims.announcements =
      s.claims.announcements ++ [{ locker := h.locker, frame := s.link.nextFrame }] := by
  unfold Station.announce
  dsimp only
  rw [offer_claims]

theorem announce_walk (h : Holding) :
    (s.announce h).claims.walk =
      if s.lockers.lockers.length < h.locker + 1 then none else some (h.locker + 1) := by
  unfold Station.announce
  dsimp only
  rw [offer_lockers]

theorem announce_lockers (h : Holding) : (s.announce h).lockers = s.lockers := offer_lockers s _ _ _ _

theorem announce_added (up : s.link.up = true) (fresh : ∀ f ∈ s.link.queue, f.kind ≠ .tally)
    (room : s.link.queue.length < 12) (h : Holding) : Added [.claim] 1 s (s.announce h) := by
  obtain ⟨added, -⟩ := offer_added .claim (claimContent h.party h.locker h.serial (s.lockerSize h.locker)) .claimUnit
    (.announcement h.locker) (.inl up) fresh room
  exact ⟨added.up, added.reports, added.length, added.keeps, added.kinds⟩

theorem Added.still_fresh {kinds : List Kind} {n : Nat} (added : Added kinds n s t) (other : .tally ∉ kinds)
    (fresh : ∀ f ∈ s.link.queue, f.kind ≠ .tally) : ∀ f ∈ t.link.queue, f.kind ≠ .tally := by
  intro f mem
  rcases added.kinds f mem with old | new
  · exact fresh f old
  · exact fun tally => other (tally ▸ new)

theorem walkOn_added (fuel : Nat) (s : Station) (up : s.link.up = true)
    (fresh : ∀ f ∈ s.link.queue, f.kind ≠ .tally)
    (room : s.link.queue.length + (2 - s.claims.announcements.length) ≤ 12) :
    Added [.claim] (2 - s.claims.announcements.length) s (walkOn fuel s) ∧
      ∀ a ∈ s.claims.announcements, a ∈ (walkOn fuel s).claims.announcements := by
  induction fuel generalizing s with
  | zero => exact ⟨.of_link rfl, fun _ => id⟩
  | succ fuel ih =>
    unfold walkOn
    split
    · exact ⟨.of_link rfl, fun _ => id⟩
    next t step =>
      rcases walkOne_cases step with ended | ⟨few, h, announced⟩
      · rw [ended]
        obtain ⟨added, listed⟩ := ih { s with claims.walk := none } up fresh room
        exact ⟨⟨added.up, added.reports, added.length, added.keeps, added.kinds⟩, listed⟩
      · have one := announce_added up fresh (by omega) h
        have list := congrArg List.length (announce_announcements (s := s) h)
        rw [List.length_append, List.length_singleton] at list
        have length := one.length
        rw [announced]
        obtain ⟨added, listed⟩ := ih (s.announce h) (one.up.trans up)
          (one.still_fresh (by decide) fresh) (by omega)
        refine ⟨(one.trans added).wider (by omega) fun _ => id, fun a mem => listed a ?_⟩
        rw [announce_announcements]
        exact List.mem_append_left _ mem

/-! ### The holdings announced -/

/-- A holding that is due is one that the walk finds on its locker. -/
theorem found_of_walkDue {position n : Nat} {h : Holding} (due : s.walkDue position h) (here : n = h.locker) :
    s.lockers.holdings.find? (fun h => decide (h.locker = n) && h.unannounced &&
      !(s.claims.announcements.any fun a => decide (a.locker = h.locker))) ≠ none := by
  obtain ⟨stands, unannounced, -, unlisted⟩ := due
  refine fun none => List.find?_eq_none.1 none h stands ?_
  simp only [here, unannounced, Bool.and_true, decide_true, Bool.true_and, Bool.not_eq_true', List.any_eq_false]
  exact fun x listed same => unlisted ⟨x, listed, of_decide_eq_true same⟩

/-- A holding that the walk finds is due, and none that is due stands on an earlier locker. -/
theorem nextUnannounced_found {position : Nat} {g : Holding}
    (ordered : (s.lockers.lockers.map (·.number)).Pairwise (· < ·)) (found : s.nextUnannounced position = some g) :
    s.walkDue position g ∧
      ∀ h l, s.walkDue position h → s.locker? h.locker = some l → g.locker ≤ h.locker := by
  obtain ⟨before, x, after, reached, hit, none⟩ := List.findSome?_eq_some_iff.1 found
  have mem : x ∈ before ++ x :: after := List.mem_append_right _ List.mem_cons_self
  rw [← reached] at mem
  obtain ⟨due, here⟩ := walkDue_of_found s (of_decide_eq_true (List.mem_filter.1 mem).2) hit
  refine ⟨due, fun h l dueH locker => ?_⟩
  have number := locker?_number s locker
  have behind : l ∈ before ++ x :: after := by
    rw [← reached]
    exact List.mem_filter.2 ⟨List.mem_of_find?_eq_some locker, decide_eq_true (number ▸ dueH.2.2.1)⟩
  have inOrder : ((before ++ x :: after).map (·.number)).Pairwise (· < ·) := by
    rw [← reached]
    exact ordered.sublist (List.filter_sublist.map _)
  rw [List.map_append, List.map_cons, List.pairwise_append, List.pairwise_cons] at inOrder
  obtain ⟨-, ⟨first, -⟩, -⟩ := inOrder
  rcases List.mem_append.1 behind with front | back
  · exact absurd (none l front) (found_of_walkDue dueH number)
  · rcases List.mem_cons.1 back with same | later
    · exact (here.trans ((congrArg Locker.number same).symm.trans number)).le
    · have less := first l.number (List.mem_map_of_mem later)
      omega

theorem nextUnannounced_isSome {position : Nat} {h : Holding} {l : Locker} (due : s.walkDue position h)
    (locker : s.locker? h.locker = some l) : ∃ g, s.nextUnannounced position = some g := by
  have number := locker?_number s locker
  cases next : s.nextUnannounced position with
  | some g => exact ⟨g, rfl⟩
  | none =>
    have reached : l ∈ s.lockers.lockers.filter fun l => position ≤ l.number :=
      List.mem_filter.2 ⟨List.mem_of_find?_eq_some locker, decide_eq_true (number ▸ due.2.2.1)⟩
    exact absurd (List.findSome?_eq_none_iff.1 next l reached) (found_of_walkDue due number)

/-- R64: the announcing CLAIM of a holding stands in the queue, and its locker is listed with it. -/
def Station.Announces (h : Holding) (l : Locker) (s : Station) : Prop :=
  ∃ f ∈ s.link.queue, f.kind = .claim ∧
    f.content =
      partyBytes h.party ++ [oneByte h.locker] ++ threeBytes h.serial ++ [if l.size = .large then 1 else 0] ∧
    { locker := h.locker, frame := f.id } ∈ s.claims.announcements

/-- A holding that the walk announces stays announced as the walk goes on. -/
theorem announce_announces (up : s.link.up = true) (fresh : ∀ f ∈ s.link.queue, f.kind ≠ .tally)
    (room : s.link.queue.length + (2 - s.claims.announcements.length) ≤ 12)
    (few : s.claims.announcements.length < 2) {h : Holding} {l : Locker} (locker : s.locker? h.locker = some l) :
    (s.announce h).continueWalk.Announces h l := by
  have one := announce_added up fresh (by omega) h
  have list := congrArg List.length (announce_announcements (s := s) h)
  rw [List.length_append, List.length_singleton] at list
  have length := one.length
  obtain ⟨rest, listed⟩ := walkOn_added 64 (s.announce h) (one.up.trans up) (one.still_fresh (by decide) fresh) (by omega)
  have queued := (offer_added .claim
    (partyBytes h.party ++ [oneByte h.locker] ++ threeBytes h.serial ++ [if l.size = .large then 1 else 0]) .claimUnit
    (.announcement h.locker) (.inl up) fresh (by omega)).2
  refine ⟨_, rest.keeps (s.newFrame .claim
    (partyBytes h.party ++ [oneByte h.locker] ++ threeBytes h.serial ++ [if l.size = .large then 1 else 0]) .claimUnit
    (.announcement h.locker)) ?_, rfl, rfl, listed _ ?_⟩
  · rw [announce_eq s locker]
    exact queued
  · rw [announce_announcements]
    exact List.mem_append_right _ (List.mem_singleton.2 rfl)

theorem walk_steps {position : Nat} {g : Holding} (walk : s.claims.walk = some position)
    (few : s.claims.announcements.length < 2) (next : s.nextUnannounced position = some g) :
    s.continueWalk = (s.announce g).continueWalk :=
  continueWalk_step s ((walkOne_of s walk few).trans (by rw [next]))

/-- R64: a walk begins at locker 1. -/
def Station.walkBegun (s : Station) : Station := { s with claims.walk := some 1 }

/-- R67: a walk from locker 1 with an empty list announces the first two UNANNOUNCED holdings. -/
theorem startWalk_announces (up : s.link.up = true) (fresh : ∀ f ∈ s.link.queue, f.kind ≠ .tally)
    (room : s.link.queue.length + 2 ≤ 12) (empty : s.claims.announcements = [])
    (numbers : s.lockers.lockers.map (·.number) = (List.range s.lockers.lockers.length).map (· + 1))
    (apart : (s.lockers.holdings.map (·.locker)).Nodup) {h : Holding} {l : Locker} (stands : h ∈ s.lockers.holdings)
    (unannounced : h.unannounced = true) (locker : s.locker? h.locker = some l)
    (early : (s.lockers.holdings.countP fun g => g.unannounced && decide (g.locker < h.locker)) < 2) :
    s.startWalk.Announces h l := by
  have ordered : (s.lockers.lockers.map (·.number)).Pairwise (· < ·) := by
    rw [numbers, List.pairwise_map]
    exact List.pairwise_lt_range.imp (by omega)
  have inside : 1 ≤ h.locker ∧ h.locker ≤ s.lockers.lockers.length := by
    have mem : l.number ∈ s.lockers.lockers.map (·.number) :=
      List.mem_map_of_mem (List.mem_of_find?_eq_some locker)
    rw [numbers, locker?_number s locker] at mem
    obtain ⟨k, below, same⟩ := List.mem_map.1 mem
    have below := List.mem_range.1 below
    omega
  have same {g : Holding} (held : g ∈ s.lockers.holdings) (there : g.locker = h.locker) : g = h :=
    List.inj_on_of_nodup_map apart held stands there
  have list : s.walkBegun.claims.announcements.length = 0 := congrArg List.length empty
  have due : s.walkBegun.walkDue 1 h := ⟨stands, unannounced, inside.1, fun ⟨x, listed, _⟩ => by
    rw [List.length_eq_zero_iff.1 list] at listed
    cases listed⟩
  obtain ⟨g, next⟩ := nextUnannounced_isSome due locker
  obtain ⟨dueG, leastG⟩ := nextUnannounced_found (s := s.walkBegun) ordered next
  have steps : s.startWalk = (s.walkBegun.announce g).continueWalk := walk_steps (s := s.walkBegun) rfl (by omega) next
  have spare : s.walkBegun.link.queue.length + 2 ≤ 12 := room
  have one := announce_added (s := s.walkBegun) up fresh (by omega) g
  have length := one.length
  rw [steps]
  rcases (leastG h l due locker).lt_or_eq with before | there
  · generalize announced : s.walkBegun.announce g = v at one length
    have lockers : v.lockers = s.lockers := announced ▸ announce_lockers g
    have listed : v.claims.announcements = [{ locker := g.locker, frame := s.link.nextFrame }] := by
      rw [← announced, announce_announcements, List.length_eq_zero_iff.1 list]
      rfl
    have walk : v.claims.walk = some (g.locker + 1) := by
      rw [← announced, announce_walk]
      exact if_neg (by show ¬s.lockers.lockers.length < g.locker + 1; omega)
    have lockerV : v.locker? h.locker = some l := by
      unfold Station.locker? at locker ⊢
      rw [lockers]
      exact locker
    have dueV : v.walkDue (g.locker + 1) h := by
      refine ⟨lockers ▸ stands, unannounced, before, fun ⟨x, mem, here⟩ => ?_⟩
      rw [listed] at mem
      rw [List.mem_singleton.1 mem] at here
      exact before.ne here
    obtain ⟨k, next'⟩ := nextUnannounced_isSome dueV lockerV
    obtain ⟨dueK, leastK⟩ := nextUnannounced_found (s := v) (lockers ▸ ordered) next'
    have few : v.claims.announcements.length = 1 := by rw [listed]; rfl
    rw [walk_steps (s := v) walk (by omega) next']
    obtain ⟨heldK, unannouncedK, behind, -⟩ := dueK
    rcases (leastK h l dueV lockerV).lt_or_eq with beforeK | thereK
    · have both : [g, k] ⊆ s.lockers.holdings.filter fun x => x.unannounced && decide (x.locker < h.locker) := by
        intro x mem
        rcases List.mem_pair.1 mem with rfl | rfl
        · exact List.mem_filter.2 ⟨dueG.1, Bool.and_eq_true_iff.2 ⟨dueG.2.1, decide_eq_true before⟩⟩
        · exact List.mem_filter.2 ⟨lockers ▸ heldK, Bool.and_eq_true_iff.2 ⟨unannouncedK, decide_eq_true beforeK⟩⟩
      have distinct : [g, k].Nodup := List.nodup_cons.2 ⟨fun mem => by
        rw [List.mem_singleton.1 mem] at behind
        omega, List.nodup_singleton k⟩
      have two := (distinct.subperm both).length_le
      rw [← List.countP_eq_length_filter] at two
      exact absurd early (Nat.not_lt.2 two)
    · rw [same (lockers ▸ heldK) thereK]
      have spareV : v.link.queue.length + 1 ≤ 12 := by omega
      exact announce_announces (one.up.trans up) (one.still_fresh (by decide) fresh) (by omega) (by omega) lockerV
  · rw [same dueG.1 there]
    exact announce_announces (s := s.walkBegun) up fresh (by omega) (by omega) locker

end

end Sys2Proof.Machine

/-!
PROOFS. A warm start completes: what stands and what the blocks queue (for O59).
-/

namespace Sys2Proof.Machine

open Sys2Proof

section

variable {s : Station}

/-! ### Claims voided as the station resumes (R67) -/

/-- R67: the claims are gone, and no walk has begun. -/
def Station.claimsVoided (s : Station) : Station :=
  { s.claims.claims.foldl Station.voidClaim s with claims.claims := [] }

theorem voidClaim_up (c : Claim) : (s.voidClaim c).link.up = s.link.up := by
  unfold Station.voidClaim Station.offerIfUp
  split
  · rfl
  · split
    · exact offer_up s.countYielded _ _ _ _
    · rfl

theorem voidFold_up (claims : List Claim) (u : Station) : (claims.foldl Station.voidClaim u).link.up = u.link.up := by
  induction claims generalizing u with
  | nil => rfl
  | cons c claims ih => exact (ih (u.voidClaim c)).trans (voidClaim_up c)

theorem voidClaims_eq : s.voidClaims = if s.link.up then s.claimsVoided.startWalk else s.claimsVoided := by
  have up : s.claimsVoided.link.up = s.link.up := voidFold_up s.claims.claims s
  rw [← up]
  rfl

theorem startWalk_frame :
    s.startWalk =
      { s with
        link := s.startWalk.link
        claims.announcements := s.startWalk.claims.announcements
        claims.walk := s.startWalk.claims.walk } := by
  unfold Station.startWalk Station.continueWalk
  rw [walkOn_frame]

theorem claimsVoided_frame :
    s.claimsVoided =
      { s with
        link := s.claimsVoided.link
        claims.claims := []
        claims.yielded := s.claimsVoided.claims.yielded
        claims.failed := s.claimsVoided.claims.failed } := by
  unfold Station.claimsVoided
  rw [voidFold_frame]

theorem voidClaims_frame :
    s.voidClaims =
      { s with
        link := s.voidClaims.link
        claims := s.voidClaims.claims } := by
  rw [voidClaims_eq]
  split
  · rw [startWalk_frame, claimsVoided_frame]
  · rw [claimsVoided_frame]

/-- R67: the claims table is empty, and the counters of claims have risen. -/
theorem voidClaims_counts :
    s.voidClaims.claims.claims = [] ∧
      s.voidClaims.claims.yielded.toNat =
        min 65535 (s.claims.yielded.toNat + s.claims.claims.countP fun c => decide (c.state ≠ .queued)) ∧
      s.voidClaims.claims.failed.toNat =
        min 65535 (s.claims.failed.toNat + s.claims.claims.countP fun c => decide (c.state = .queued)) := by
  have counts := voidFold_counts s.claims.claims s
  rw [voidClaims_eq]
  split
  · rw [startWalk_frame]
    exact ⟨rfl, counts⟩
  · exact ⟨rfl, counts⟩

theorem voidClaims_down (down : s.link.up = false) :
    s.voidClaims.link = s.link ∧ s.voidClaims.claims.announcements = s.claims.announcements ∧
      s.voidClaims.claims.walk = s.claims.walk := by
  have link : s.claimsVoided.link = s.link := voidFold_down s.claims.claims s down
  rw [voidClaims_eq, down, if_neg Bool.false_ne_true]
  refine ⟨link, ?_, ?_⟩
  · rw [claimsVoided_frame]
  · rw [claimsVoided_frame]

/-- R67: on a link that is UP each SENT claim's YIELD is queued, and the walk begins. -/
theorem voidClaims_up (up : s.link.up = true) (fresh : ∀ f ∈ s.link.queue, f.kind ≠ .tally)
    (room : s.link.queue.length + s.claims.claims.length + 2 ≤ 12) (empty : s.claims.announcements = []) :
    Added [.yield, .claim] (s.claims.claims.length + 2) s s.voidClaims ∧
      (∀ c ∈ s.claims.claims, ∀ w, c.state = .sent w → ∃ f ∈ s.voidClaims.link.queue,
        f.kind = .yield ∧ f.content = partyBytes c.party ++ [oneByte c.locker]) ∧
      ∀ h ∈ s.lockers.holdings, ∀ l, h.unannounced = true →
        s.lockers.lockers.map (·.number) = (List.range s.lockers.lockers.length).map (· + 1) →
        (s.lockers.holdings.map (·.locker)).Nodup → s.locker? h.locker = some l →
        (s.lockers.holdings.countP fun g => g.unannounced && decide (g.locker < h.locker)) < 2 →
        s.voidClaims.Announces h l := by
  obtain ⟨yielded, yields⟩ := voidFold_added s.claims.claims s up fresh (by omega)
  have voided : Added [.yield] s.claims.claims.length s s.claimsVoided :=
    ⟨yielded.up, yielded.reports, yielded.length, yielded.keeps, yielded.kinds⟩
  have length := voided.length
  have list : s.claimsVoided.claims.announcements = [] := by
    rw [claimsVoided_frame]
    exact empty
  have lockers : s.claimsVoided.lockers = s.lockers := by rw [claimsVoided_frame]
  have freshVoided := voided.still_fresh (by decide) fresh
  have short : s.claimsVoided.walkBegun.link.queue.length + (2 - s.claimsVoided.walkBegun.claims.announcements.length) ≤
      12 := by
    show s.claimsVoided.link.queue.length + (2 - s.claimsVoided.claims.announcements.length) ≤ 12
    omega
  obtain ⟨walked, -⟩ := walkOn_added 64 s.claimsVoided.walkBegun (voided.up.trans up) freshVoided short
  have walks : Added [.claim] 2 s.claimsVoided s.claimsVoided.startWalk :=
    Added.wider ⟨walked.up, walked.reports, walked.length, walked.keeps, walked.kinds⟩ (Nat.sub_le _ _) fun _ => id
  rw [voidClaims_eq, if_pos up]
  refine ⟨?_, fun c mem w sent => ?_, fun h stands l unannounced numbers apart locker early => ?_⟩
  · exact (voided.wider le_rfl (by decide)).trans (walks.wider le_rfl (by decide))
  · obtain ⟨f, here, kind⟩ := yields c mem w sent
    exact ⟨f, walks.keeps f here, kind⟩
  · have lockerVoided : s.claimsVoided.locker? h.locker = some l := by
      unfold Station.locker? at locker ⊢
      rw [lockers]
      exact locker
    exact startWalk_announces (voided.up.trans up) freshVoided (by omega) list (by rw [lockers]; exact numbers)
      (by rw [lockers]; exact apart) (by rw [lockers]; exact stands) unannounced lockerVoided (by rw [lockers]; exact early)

/-! ### The acts of a station that resumes (R196, R197) -/

/-- R67: the claims are voided where the station resumes in RUN. -/
def Station.voided (s : Station) : Station := if s.restart.mode = .run then s.voidClaims else s

/-- R196, R197: a RECALL is queued where the station was RECOVERING and none has been delivered. -/
def Station.called (recovering : Bool) (s : Station) : Station :=
  if recovering && !s.restart.recallDelivered then s.queueRecall else s

theorem resumedActs_eq (recovering : Bool) :
    s.resumedActs recovering = (s.voided.called recovering).composeLine.queueTally := rfl

theorem voided_frame : s.voided = { s with link := s.voided.link, claims := s.voided.claims } := by
  unfold Station.voided
  split
  · exact voidClaims_frame
  · rfl

theorem called_frame (recovering : Bool) : s.called recovering = { s with link := (s.called recovering).link } := by
  unfold Station.called
  split
  · exact offer_frame s _ _ _ _
  · rfl

theorem queueTally_frame : s.queueTally = { s with link := s.queueTally.link } := by
  unfold Station.queueTally
  split
  · exact offer_frame s _ _ _ _
  · rfl

theorem resumedActs_frame (recovering : Bool) :
    s.resumedActs recovering =
      { s with
        link := (s.resumedActs recovering).link
        claims := s.voided.claims
        panel := (s.resumedActs recovering).panel } := by
  rw [resumedActs_eq, queueTally_frame, Station.composeLine, called_frame, voided_frame]

theorem voided_added (empty : s.link.queue = []) (list : s.claims.announcements = []) (few : s.claims.claims.length ≤ 4) :
    Added [.yield, .claim] 6 s s.voided := by
  unfold Station.voided
  split
  · cases up : s.link.up with
    | true =>
      obtain ⟨added, -⟩ := voidClaims_up up (by rw [empty]; exact nofun) (by rw [empty]; show 0 + _ + 2 ≤ 12; omega) list
      exact added.wider (by omega) fun _ => id
    | false => exact .of_link (voidClaims_down up).1
  · exact .of_link rfl

theorem called_added (recovering : Bool) (fresh : ∀ f ∈ s.link.queue, f.kind ≠ .tally)
    (room : s.link.queue.length < 12) :
    Added [.recall] 1 s (s.called recovering) ∧
      ((recovering && !s.restart.recallDelivered) = true → ∃ f ∈ (s.called recovering).link.queue, f.kind = .recall) ∧
      ((recovering && !s.restart.recallDelivered) = false → (s.called recovering).link = s.link) := by
  unfold Station.called
  split
  next calls =>
    obtain ⟨added, here⟩ := offer_added .recall [] .restartControl .plain (.inr (.inl rfl)) fresh room
    exact ⟨added, fun _ => ⟨_, here, rfl⟩, fun none => absurd calls (by rw [none]; exact Bool.false_ne_true)⟩
  next silent => exact ⟨.of_link rfl, fun calls => absurd calls silent, fun _ => rfl⟩

theorem queueTally_added (fresh : ∀ f ∈ s.link.queue, f.kind ≠ .tally) (room : s.link.queue.length < 12) :
    Added [.tally] 1 s s.queueTally ∧ (s.link.up = true → ∃ f ∈ s.queueTally.link.queue, f.kind = .tally) ∧
      (s.link.up = false → s.queueTally = s) := by
  unfold Station.queueTally
  split
  next up =>
    obtain ⟨added, here⟩ := offer_added .tally s.tallyContent .tallyUnit .plain (.inl up) fresh room
    exact ⟨added, fun _ => ⟨_, here, rfl⟩, fun down => absurd (up.symm.trans down) (by decide)⟩
  next down => exact ⟨.of_link rfl, fun up => absurd up down, fun _ => rfl⟩

/-- R67, R196, R197: what the queue holds once the blocks have resumed. -/
theorem resumedActs_queue (recovering : Bool) (empty : s.link.queue = []) (list : s.claims.announcements = [])
    (few : s.claims.claims.length ≤ 4) :
    (s.resumedActs recovering).link.up = s.link.up ∧
      (s.resumedActs recovering).link.reports = s.link.reports ∧
      (∀ f ∈ s.voided.link.queue, f ∈ (s.resumedActs recovering).link.queue) ∧
      (s.link.up = true → ∃ f ∈ (s.resumedActs recovering).link.queue, f.kind = .tally) ∧
      (s.link.up = false → ∀ f ∈ (s.resumedActs recovering).link.queue, f.kind = .recall) ∧
      ((∃ f ∈ (s.resumedActs recovering).link.queue, f.kind = .recall) ↔
        recovering = true ∧ s.restart.recallDelivered = false) := by
  have voided := voided_added empty list few
  have length := voided.length
  have none : s.link.queue.length = 0 := congrArg List.length empty
  have kinds : ∀ f ∈ s.voided.link.queue, f.kind ∈ [.yield, .claim] := fun f mem =>
    (voided.kinds f mem).resolve_left (by rw [empty]; exact nofun)
  have fresh : ∀ f ∈ s.voided.link.queue, f.kind ≠ .tally := voided.still_fresh (by decide) (by rw [empty]; exact nofun)
  have mark : s.voided.restart.recallDelivered = s.restart.recallDelivered := by rw [voided_frame]
  obtain ⟨called, calls, silent⟩ := called_added (s := s.voided) recovering fresh (by omega)
  have lengthCalled := called.length
  obtain ⟨tallied, tallies, quiet⟩ := queueTally_added (s := (s.voided.called recovering).composeLine)
    (called.still_fresh (by decide) fresh) (by show (s.voided.called recovering).link.queue.length < 12; omega)
  have up : (s.voided.called recovering).link.up = s.link.up := called.up.trans voided.up
  rw [mark] at calls silent
  rw [resumedActs_eq]
  refine ⟨tallied.up.trans up, tallied.reports.trans (called.reports.trans voided.reports),
    fun f mem => tallied.keeps f (called.keeps f mem), fun on => tallies (up.trans on), fun down => ?_, ?_, ?_⟩
  · have still : s.voided.link = s.link := by
      unfold Station.voided
      split
      · exact (voidClaims_down down).1
      · rfl
    rw [quiet (up.trans down)]
    intro f mem
    rcases called.kinds f mem with old | new
    · rw [still, empty] at old
      cases old
    · exact List.mem_singleton.1 new
  · rintro ⟨f, mem, recall'⟩
    have stands : f ∈ (s.voided.called recovering).link.queue :=
      (tallied.kinds f mem).resolve_right (by rw [recall']; decide)
    cases due : recovering && !s.restart.recallDelivered with
    | true => simpa using due
    | false =>
      rw [silent due] at stands
      have kind := kinds f stands
      rw [recall'] at kind
      exact absurd kind (by decide)
  · rintro ⟨was, undelivered⟩
    obtain ⟨f, mem, kind⟩ := calls (by rw [was, undelivered]; rfl)
    exact ⟨f, tallied.keeps f mem, kind⟩

theorem voided_down (down : s.link.up = false) :
    s.voided.claims.announcements = s.claims.announcements ∧ s.voided.claims.walk = s.claims.walk := by
  unfold Station.voided
  split
  · exact (voidClaims_down down).2
  · exact ⟨rfl, rfl⟩

/-- The blocks that the acts of the start leave alone. -/
theorem resumedActs_apart (recovering : Bool) :
    (s.resumedActs recovering).restart = s.restart ∧ (s.resumedActs recovering).lockers = s.lockers ∧
      (s.resumedActs recovering).taps = s.taps ∧ (s.resumedActs recovering).tally = s.tally ∧
      (s.resumedActs recovering).cabins = s.cabins ∧ (s.resumedActs recovering).drive = s.drive ∧
      (s.resumedActs recovering).orders = s.orders ∧ (s.resumedActs recovering).claims = s.voided.claims := by
  rw [resumedActs_frame]
  exact ⟨rfl, rfl, rfl, rfl, rfl, rfl, rfl, rfl⟩

end

end Sys2Proof.Machine

/-!
PROOFS. The causes of a start, their ends, the end of a warm start and a cold start (O59).
-/

namespace Sys2Proof.Machine

open Sys2Proof

section

variable {s : Station} {cause : StartCause} {strap : BitVec 5} {zone : BitVec 3}

/-! ### The blocks resume (R196) -/

theorem resumeClocks_frame :
    s.resumeClocks =
      { s with
        lockers.minuteDue := s.resumeClocks.lockers.minuteDue
        cabins.clockDue := s.resumeClocks.cabins.clockDue
        restart.pausedAt := s.resumeClocks.restart.pausedAt } := by
  unfold Station.resumeClocks
  split <;> rfl

/-- R196: the blocks have resumed with a valid strap, and have not acted yet. -/
def Station.back (cause : StartCause) (strap : BitVec 5) (zone : BitVec 3) (s : Station) : Station :=
  ((s.pinsRead strap zone).rejoined cause strap zone).resumeClocks.countHeld.resumed strap

/-- What the station has resumed with. -/
structure Resumes (cause : StartCause) (strap : BitVec 5) (zone : BitVec 3) (s t : Station) : Prop where
  link       : t.link = s.link
  claims     : t.claims = s.claims
  records    : t.lockers.lockers = s.lockers.lockers
  holdings   : t.lockers.holdings = s.lockers.holdings
  minute     : t.lockers.minute = s.lockers.minute
  orders     : t.orders = s.orders
  dwell      : t.cabins.dwell = s.cabins.dwell
  clock      : t.cabins.clock = s.cabins.clock
  cabins     : t.cabins.cabins = s.cabins.cabins.map fun c : Cabin => { c with unsettled := true }
  accepted   : t.taps.accepted = s.taps.accepted
  refused    : t.taps.refused.toNat = min 65535 (s.taps.refused.toNat + s.taps.heldRefused.toNat)
  held       : t.taps.heldRefused = 0
  jams       : t.drive.jams = s.drive.jams
  latches    : t.drive.latches = s.drive.latches ||| s.drive.inputs
  neighbours : t.tally.neighbours = neighboursOf strap.toNat
  timer      : t.tally.timer = some (s.now + 2000)
  holdDown   : t.restart.holdDown = s.restart.holdDown
  releaseAt  : t.restart.releaseAt = s.restart.releaseAt
  phase      : t.restart.phase = .running
  mode       : t.restart.mode =
    if s.orders.lockersLockClosed = true ∧ s.orders.cabinsLockClosed = true then .run else .unset
  station    : t.restart.station = strap.toNat
  zone       : t.restart.zone = zone
  cause      : t.restart.cause = cause
  warmStarts : t.restart.warmStarts = satInc s.restart.warmStarts
  settleDue  : t.restart.settleDue = true
  delivered  : t.restart.recallDelivered = s.restart.recallDelivered

theorem resumedMode_eq :
    s.resumedMode = if s.orders.lockersLockClosed = true ∧ s.orders.cabinsLockClosed = true then .run else .unset := by
  unfold Station.resumedMode
  exact if_congr Bool.and_eq_true_iff rfl rfl

theorem back_resumes : Resumes cause strap zone s (s.back cause strap zone) := by
  have mode := resumedMode_eq (s := ((s.pinsRead strap zone).rejoined cause strap zone).resumeClocks.countHeld)
  unfold Station.back
  rw [resumeClocks_frame] at mode ⊢
  exact ⟨rfl, rfl, rfl, rfl, rfl, rfl, rfl, rfl, rfl, rfl, satAdd_toNat _ _, rfl, rfl, rfl, rfl, rfl, rfl, rfl, rfl,
    mode, rfl, rfl, rfl, rfl, rfl, rfl⟩

theorem completeWarm_valid (valid : validStrap strap = true) :
    (s.pinsRead strap zone).completeWarm cause strap zone =
      (s.back cause strap zone).resumedActs (decide (s.restart.mode = .recovering)) := by
  rw [completeWarm_eq, if_pos valid]
  rfl

theorem completeWarm_invalid (invalid : validStrap strap = false) :
    (s.pinsRead strap zone).completeWarm cause strap zone =
      ((s.pinsRead strap zone).rejoined cause strap zone).strapFaulted := by
  rw [completeWarm_eq, if_neg (by rw [invalid]; exact Bool.false_ne_true)]

theorem neighboursOf_station (station : Nat) :
    (neighboursOf station).map (·.station) =
      (List.range 28).filter fun n => decide (1 ≤ n) && decide (n ≠ station) := by
  unfold neighboursOf
  rw [List.map_map]
  exact List.map_id _

theorem neighboursOf_unheard {station : Nat} : ∀ n ∈ neighboursOf station, n.heard = false := by
  intro n mem
  obtain ⟨k, -, rfl⟩ := List.mem_map.1 mem
  rfl

/-- R195: a start RESET_LINE whose supply is normal ends if the line is high. -/
theorem endCause_supplied (warm : s.restart.phase = .warm .resetLine) (normal : s.restart.logicSupply = .normal) :
    s.endCause =
      { s with
        deliveries :=
          if s.restart.resetLineLow = true then s.deliveries
          else s.deliveries ++ [.warmStartEnd s.restart.strapPins s.restart.zonePins 0] } := by
  rw [endCause_warm warm, causeEnded_resetLine, normal]
  cases s.restart.resetLineLow <;> rfl

/-- R195: a start RESET_LINE whose line is high ends if the supply is normal. -/
theorem endCause_high (warm : s.restart.phase = .warm .resetLine) (high : s.restart.resetLineLow = false) :
    s.endCause =
      { s with
        deliveries :=
          if s.restart.logicSupply = .normal then
            s.deliveries ++ [.warmStartEnd s.restart.strapPins s.restart.zonePins 0]
          else s.deliveries } := by
  rw [endCause_warm warm, causeEnded_resetLine, high]
  cases s.restart.logicSupply <;> rfl

theorem windowClosed_eq {u : Moment} (window : s.restart.windowEnd = some u) :
    s.windowClosed = { s with now := max s.now u, restart.mode := .run, restart.windowEnd := none } := by
  unfold Station.windowClosed
  rw [window]
  rfl

end

/-- Settles O59, by the phase of the start and the row. -/
theorem startRows : Obligations.StartRows := by
  intro s kept begun cold
  have begins (cause : StartCause) (a b : Station)
      (same : b = { a with restart.logicSupply := b.restart.logicSupply, restart.resetLineLow := b.restart.resetLineLow }) :
      begun cause a (b.beginWarm cause) := by
    rw [same]
    exact ⟨rfl, ⟨rfl, rfl, rfl, rfl, rfl, rfl, rfl, rfl, rfl, rfl, rfl, rfl⟩, beginWarm_retentionCheck cause, rfl, rfl,
      rfl, rfl, rfl, rfl, rfl, rfl, rfl, rfl, rfl, rfl, rfl, rfl, rfl, rfl, rfl⟩
  have colds (cause : StartCause) (strap : BitVec 5) (zone : BitVec 3) (a b : Station) (now : b.now = a.now)
      (supply : b.restart.driveSupply = a.restart.driveSupply) (inputs : b.drive.inputs = a.drive.inputs) :
      cold cause strap zone a (b.coldStart cause strap zone).finish := by
    have assembled (t : Station) (c : b.Cold cause strap zone t)
        (valid : 1 ≤ strap.toNat ∧ strap.toNat ≤ 27 → t.restart.mode = .unset ∧ t.drive.latches = b.drive.inputs ∧
          t.link.queue.map (·.kind) = [.tally] ∧ t.panel.line = Text.notReady.window 0)
        (invalid : strap.toNat = 0 ∨ 28 ≤ strap.toNat → t.restart.mode = .strapFault ∧ t.link.queue = [] ∧
          t.panel.line = Text.strapFault.window 0) : cold cause strap zone a t.finish := by
      have release := c.releaseAt
      rw [now, supply] at release
      rw [inputs] at valid
      rw [finish_settled t c.reports]
      obtain ⟨lockers, holdings, minute⟩ := c.lockers
      obtain ⟨cabins, queue, dwell⟩ := c.cabins
      exact ⟨c.phase, c.station, c.zone, c.cause, c.warmStarts, c.holdDown, release, lockers, holdings, minute, c.claims,
        c.cache, cabins, queue, dwell, c.requests, c.up, c.counters, c.held, c.snapshot, c.locks.1, c.locks.2,
        c.interval, c.message, valid, invalid⟩
    cases valid : validStrap strap with
    | true =>
      obtain ⟨c, outcome⟩ := coldStart_valid (s := b) cause valid zone
      refine assembled _ c (fun _ => outcome) fun out => ?_
      rw [invalidStrap out] at valid
      cases valid
    | false =>
      obtain ⟨c, outcome⟩ := coldStart_invalid (s := b) cause valid zone
      refine assembled _ c (fun inside => ?_) fun _ => outcome
      rw [validStrap_iff.2 inside] at valid
      cases valid
  refine ⟨fun on => ⟨?_, ?_⟩, ?_, fun strap zone => ⟨fun off => ?_, fun warm quiet => ?_, fun warm quiet => ?_⟩,
    fun warm => ?_, fun idle => ?_, fun strap zone damage quiet lasts => ?_,
    fun cause strap zone damage => ?_, fun cmd stands safe running fault => ?_, fun u live window => ?_⟩
  · refine runs_perform
      (f := fun t => ({ t with restart.logicSupply := .low } : Station).causeArrives .supplyLow) rfl ?_
    rw [causeArrives_begins (s := { s.station.take _ with restart.logicSupply := .low }) on]
    exact ⟨rfl, begins _ _ _ rfl⟩
  · refine runs_perform
      (f := fun t => ({ t with restart.resetLineLow := true } : Station).causeArrives .resetLine) rfl ?_
    rw [causeArrives_begins (s := { s.station.take _ with restart.resetLineLow := true }) on]
    exact ⟨rfl, begins _ _ _ rfl⟩
  · exact runs_perform
      (f := fun t => { t.loseVolatile with restart.logicSupply := .lost, restart.phase := .off }) rfl
      ⟨rfl, rfl, rfl, rfl⟩
  · refine runs_performFinish (f := Station.supplyRestored strap zone) rfl ?_
    rw [supplyRestored_cold (s := s.station.take _) off]
    exact colds _ _ _ _ _ rfl rfl rfl
  · refine runs_finish (f := Station.supplyRestored strap zone) rfl
      ((supplyRestored_warm (s := s.station.take _) warm strap zone).trans (endCause_warm warm)) quiet ?_
    rfl
  · exact runs_finish (f := Station.supplyRestored strap zone) rfl
      ((supplyRestored_warm (s := s.station.take _) warm strap zone).trans (endCause_supplied warm rfl)) quiet rfl
  · refine runs_perform (f := fun t => ({ t with restart.resetLineLow := false } : Station).endCause) rfl ?_
    exact endCause_high (s := { s.station.take _ with restart.resetLineLow := false }) warm rfl
  · refine runs_perform (f := fun t => ({ t with restart.resetLineLow := false } : Station).endCause) rfl ?_
    rcases idle with idle | ⟨warm, low⟩
    · exact endCause_idle (s := { s.station.take _ with restart.resetLineLow := false }) idle
    · refine (endCause_warm (s := { s.station.take _ with restart.resetLineLow := false }) warm).trans ?_
      rw [if_neg (by rw [causeEnded_supplyLow]; exact fun normal => low (of_decide_eq_true normal))]
  · refine runs_finish (f := Station.warmEnd strap zone damage) (u := s.station.take _) rfl ?_ quiet rfl
    rcases lasts with ⟨warm, low⟩ | ⟨warm, low⟩
    · rcases List.mem_pair.1 warm with supply | line
      · exact warmEnd_waits (s := s.station.take _) supply (decide_eq_false low) strap zone damage
      · refine warmEnd_waits (s := s.station.take _) line ?_ strap zone damage
        rw [causeEnded_resetLine]
        exact Bool.and_eq_false_iff.2 (.inr (decide_eq_false low))
    · refine warmEnd_waits (s := s.station.take _) warm ?_ strap zone damage
      rw [causeEnded_resetLine]
      exact Bool.and_eq_false_iff.2 (.inl (by rw [show (s.station.take _).restart.resetLineLow = true from low]; rfl))
  · intro afresh warm listed normal high empty quiet list still few
    have ends := warmEnd_ends (s := s.station.take (.warmStartEnd strap zone damage)) warm
      (causeEnded_all listed normal high) strap zone damage
    refine ⟨fun differs => ?_, fun agrees out => ?_, fun agrees least last => ?_⟩
    · refine runs_performFinish (f := Station.warmEnd strap zone damage) rfl ?_
      rw [ends.trans (if_neg differs)]
      exact colds _ _ _ _ _ rfl rfl rfl
    · refine runs_finish (f := Station.warmEnd strap zone damage) rfl
        ((ends.trans (if_pos agrees)).trans (completeWarm_invalid (invalidStrap out))) quiet ?_
      exact ⟨rfl, rfl, rfl, rfl, rfl, rfl, rfl, rfl, empty, rfl⟩
    · have valid : validStrap strap = true := validStrap_iff.2 ⟨least, last⟩
      have completed := (ends.trans (if_pos agrees)).trans (completeWarm_valid valid)
      have r : Resumes cause strap zone (s.station.take (.warmStartEnd strap zone damage))
        ((s.station.take (.warmStartEnd strap zone damage)).back cause strap zone) := back_resumes
      generalize (s.station.take (.warmStartEnd strap zone damage)).back cause strap zone = w at r completed
      have none : w.link.queue = [] := by rw [r.link]; exact empty
      have unlisted : w.claims.announcements = [] := by rw [r.claims]; exact list
      have four : w.claims.claims.length ≤ 4 := by rw [r.claims]; exact few
      obtain ⟨up, reports, keeps, tallies, down, calls⟩ :=
        resumedActs_queue (s := w) (decide ((s.station.take (.warmStartEnd strap zone damage)).restart.mode = .recovering)) none unlisted four
      obtain ⟨restart, lockers, taps, tally, cabins, drive, orders, claims⟩ :=
        resumedActs_apart (s := w) (decide ((s.station.take (.warmStartEnd strap zone damage)).restart.mode = .recovering))
      refine runs_finish (f := Station.warmEnd strap zone damage) rfl completed
        (reports.trans (by rw [r.link]; exact quiet)) ?_
      intro run
      generalize w.resumedActs (decide ((s.station.take (.warmStartEnd strap zone damage)).restart.mode = .recovering)) = t
        at up reports keeps tallies down calls restart lockers taps tally cabins drive orders claims ⊢
      rw [restart, lockers, taps, tally, cabins]
      refine ⟨r.phase, r.mode, r.station, r.zone, r.cause, r.warmStarts, r.settleDue, ?_, r.refused, r.held, r.records,
        r.cabins, ?_, ?_, r.timer, fun g _ => ?_, fun on => ?_, fun off => ?_, ?_, fun runs => ?_⟩
      · dsimp only [kept]
        rw [restart, lockers, taps, cabins, drive, orders]
        exact ⟨r.holdings, r.minute, by rw [r.orders], by rw [r.orders], by rw [r.orders], by rw [r.orders], r.dwell, r.clock,
          r.accepted, r.jams, r.holdDown, r.releaseAt⟩
      · rw [r.neighbours]
        exact neighboursOf_station _
      · rw [r.neighbours]
        exact neighboursOf_unheard
      · rw [drive, r.latches, BitVec.getLsbD_or]
      · exact tallies (by rw [r.link]; exact on)
      · have dark : w.link.up = false := by rw [r.link]; exact off
        obtain ⟨listed', walks⟩ := voided_down dark
        rw [claims, listed', walks, r.claims]
        exact ⟨up.trans dark, list, still, down dark⟩
      · rw [calls, r.delivered, decide_eq_true_eq]
      · have voids : w.voided = w.voidClaims := if_pos (r.mode.trans (if_pos runs))
        obtain ⟨gone, yielded, failed⟩ := voidClaims_counts (s := w)
        rw [voids] at keeps claims
        rw [claims]
        rw [r.claims] at yielded failed
        refine ⟨gone, yielded, failed, fun on => ?_⟩
        obtain ⟨-, yields, announces⟩ := voidClaims_up (s := w) (by rw [r.link]; exact on) (by rw [none]; exact nofun)
          (by rw [none]; show 0 + _ + 2 ≤ 12; omega) unlisted
        rw [r.claims] at yields
        rw [r.holdings, r.records] at announces
        refine ⟨fun c mem m sent => ?_, fun h stands l unannounced numbers apart locker early => ?_⟩
        · obtain ⟨f, here, kind⟩ := yields c mem m sent
          exact ⟨f, keeps f here, kind⟩
        · have lockerBack : w.locker? h.locker = some l := by
            unfold Station.locker? at locker ⊢
            rw [r.records]
            exact locker
          obtain ⟨f, here, kind⟩ := announces h stands l unannounced numbers apart lockerBack early
          exact ⟨f, keeps f here, kind⟩
  · refine ⟨effect cmd s.station, exec_effect cmd s, ?_⟩
    exact effect_retained cmd stands ⟨running, fault, still_of_dead safe (by
      unfold Station.live
      rw [fault]
      exact Bool.and_eq_false_iff.2 (.inr rfl))⟩
  · exact runs_live rfl live (windowClosed_eq (s := s.station.take _) window)

end Sys2Proof.Machine

/-!
PROOFS. The scanner's events and the settlements leave the events handed on, restart control and the filters' load alone
(for O60).
-/

namespace Sys2Proof.Machine

open Sys2Proof

/-- The events handed on, restart control, and whether the filters have been loaded. -/
def Station.aside (s : Station) : List Instr × RestartControl × Bool := (s.deliveries, s.restart, s.scan.loaded)

variable (s : Station)

/-! ### Single operations -/

@[simp] theorem changeLocker_aside (n : Nat) (f : Locker → Locker) : (s.changeLocker n f).aside = s.aside := rfl
@[simp] theorem changeHolding_aside (n : Nat) (f : Holding → Holding) : (s.changeHolding n f).aside = s.aside := rfl
@[simp] theorem changeCabin_aside (n : Nat) (f : Cabin → Cabin) : (s.changeCabin n f).aside = s.aside := rfl
@[simp] theorem changePad_aside (n : Nat) (f : Pad → Pad) : (s.changePad n f).aside = s.aside := rfl
@[simp] theorem changeEntry_aside (b : BitVec 24) (f : QueueEntry → QueueEntry) : (s.changeEntry b f).aside = s.aside := rfl
@[simp] theorem removeEntry_aside (b : BitVec 24) : (s.removeEntry b).aside = s.aside := rfl
@[simp] theorem post_aside (t : Text) : (s.post t).aside = s.aside := rfl
@[simp] theorem freeLocker_aside (n : Nat) : (s.freeLocker n).aside = s.aside := rfl
@[simp] theorem lockLocker_aside (n : Nat) : (s.lockLocker n).aside = s.aside := rfl
@[simp] theorem settleLocker_aside (n : Nat) (state : LockerState) : (s.settleLocker n state).aside = s.aside := rfl
@[simp] theorem countOpening_aside (n : Nat) : (s.countOpening n).aside = s.aside := rfl
@[simp] theorem forceDoor_aside (n : Nat) : (s.forceDoor n).aside = s.aside := rfl
@[simp] theorem startVacate_aside (n : Nat) : (s.startVacate n).aside = s.aside := rfl

@[simp] theorem follow_aside (f : Levels → Levels) : (s.follow f).aside = s.aside := by
  unfold Station.follow
  split <;> rfl

@[simp] theorem withdrawDrive_aside (output : Nat) : (s.withdrawDrive output).aside = s.aside := by
  rw [withdrawDrive_eq]
  rfl

@[simp] theorem compareLatch_aside (n : Nat) : (s.compareLatch n).aside = s.aside := by
  rw [compareLatch_driveFrame s n]
  rfl

@[simp] theorem setLatchTarget_aside (n : Nat) (target : Option Latch) : (s.setLatchTarget n target).aside = s.aside := by
  rw [setLatchTarget_frame]
  rfl

@[simp] theorem reserveCabin_aside (n : Nat) (e : QueueEntry) : (s.reserveCabin n e).aside = s.aside := by
  unfold Station.reserveCabin
  rw [post_aside, setLatchTarget_aside, changeCabin_aside, changeEntry_aside]

@[simp] theorem freeCabin_aside (n : Nat) : (s.freeCabin n).aside = s.aside := by
  unfold Station.freeCabin
  rw [setLatchTarget_aside, changeCabin_aside]

@[simp] theorem occupyCabin_aside (n : Nat) (band : Option (BitVec 24)) : (s.occupyCabin n band).aside = s.aside := by
  unfold Station.occupyCabin
  rw [setLatchTarget_aside, changeCabin_aside]

@[simp] theorem returnEntry_aside (b : BitVec 24) : (s.returnEntry b).aside = s.aside := by
  unfold Station.returnEntry
  dsimp only
  split
  · rw [reserveCabin_aside, changeEntry_aside]
  · rfl

/-! ### The rows of an instant (R162 to R164) -/

theorem settleTaken_aside (n : Nat) : (s.settleTaken n).aside = s.aside := by
  unfold Station.settleTaken
  split
  · rfl
  · split <;> rfl

theorem openDoor_aside (n : Nat) : (s.openDoor n).aside = s.aside := by
  have driven : ((s.withdrawDrive (lockerOutput n)).settleTaken n).aside = s.aside := by
    rw [settleTaken_aside, withdrawDrive_aside]
  unfold Station.openDoor
  split
  case h_1 | h_2 => exact driven
  all_goals rfl

theorem doorOpened_aside (n : Nat) : (s.doorOpened n).aside = s.aside := by
  have opens : ((s.setDoor n false).openDoor n).aside = s.aside := (openDoor_aside _ n).trans (follow_aside s _)
  unfold Station.doorOpened Station.cursorOpened
  split
  · split
    · exact opens
    · exact opens
  · exact follow_aside s _

theorem doorShut_aside (n : Nat) : (s.doorShut n).aside = s.aside := by
  have closes (t : Station) : (t.closeDoor n).aside = t.aside := by
    unfold Station.closeDoor Station.secure
    split
    · split <;> rfl
    · rfl
    · rfl
  exact (closes _).trans (follow_aside s _)

theorem boltMoved_aside (n : Nat) (engaged : Bool) : (s.boltMoved n engaged).aside = s.aside := by
  have boltIn (t : Station) : (t.boltIn n).aside = t.aside := by
    unfold Station.boltIn
    split
    · rfl
    · split
      case h_3 => split <;> rfl
      all_goals rfl
  have boltOut (t : Station) : (t.boltOut n).aside = t.aside := by
    unfold Station.boltOut
    split <;> rfl
  have follows : (s.setBolt n engaged).aside = s.aside := follow_aside s _
  unfold Station.boltMoved
  cases engaged with
  | true => exact (boltIn _).trans follows
  | false => exact (boltOut _).trans follows

theorem latchMoved_aside (n : Nat) (latched : Bool) : (s.latchMoved n latched).aside = s.aside := by
  unfold Station.latchMoved
  rw [compareLatch_aside, changeCabin_aside, follow_aside]

theorem presenceSeen_aside (n : Nat) : (s.presenceSeen n).aside = s.aside := by
  have follows : (s.setPadLevel n true).aside = s.aside := follow_aside s _
  unfold Station.presenceSeen Station.setPresence
  dsimp only
  split <;> simp [follows, Station.cancelVacate]

theorem presenceClear_aside (n : Nat) : (s.presenceClear n).aside = s.aside := by
  have follows : (s.setPadLevel n false).aside = s.aside := follow_aside s _
  unfold Station.presenceClear Station.setPresence
  dsimp only
  split <;> simp [follows]

theorem takeInstant_aside (event : Instr) : (s.takeInstant event).aside = s.aside := by
  unfold Station.takeInstant
  split
  · exact doorOpened_aside s _
  · exact doorShut_aside s _
  · exact boltMoved_aside s _ _
  · exact latchMoved_aside s _ _
  · exact presenceSeen_aside s _
  · exact presenceClear_aside s _
  · rfl

/-! ### The settlements (R46, R108) -/

theorem takePresence_aside (n : Nat) : (s.takePresence n).aside = s.aside := by
  have walks : (s.walkIn n).aside = s.aside := by
    unfold Station.walkIn
    split
    · exact occupyCabin_aside s n none
    · exact (returnEntry_aside _ _).trans (occupyCabin_aside s n none)
  unfold Station.takePresence Station.admitCabin
  split
  · exact walks
  · exact walks
  · split
    · exact occupyCabin_aside s n none
    · exact occupyCabin_aside s n _
  · rfl

theorem resumeCabin_aside (n : Nat) : (s.resumeCabin n).aside = s.aside := by
  unfold Station.resumeCabin
  rw [compareLatch_aside]
  split
  · exact takePresence_aside s n
  · rfl

theorem settleCabin_aside (n : Nat) : (s.settleCabin n).aside = s.aside := by
  unfold Station.settleCabin
  split
  · rfl
  · split
    · exact resumeCabin_aside s n
    · dsimp only
      split
      · rfl
      · rfl
      all_goals split <;> simp

theorem settleWarm_aside (l : Locker) : (s.settleWarm l).aside = s.aside := by
  have held (t : Station) (n : Nat) : (t.settleHeld n).aside = t.aside := by
    unfold Station.settleHeld
    split <;> rfl
  have drive (t : Station) (l : Locker) : (Station.settleWarm.settleDrive t l).aside = t.aside := by
    unfold Station.settleWarm.settleDrive
    split
    · exact held t _
    · split
      · split <;> rfl
      · rfl
      · rfl
  unfold Station.settleWarm
  split
  · rfl
  · split
    case h_2 | h_3 => exact drive s l
    case h_4 | h_5 | h_6 => exact held s _
    all_goals rfl

theorem foldl_aside {α : Type} (f : Station → α → Station) (keeps : ∀ t x, (f t x).aside = t.aside) (l : List α) :
    (l.foldl f s).aside = s.aside := by
  induction l generalizing s with
  | nil => rfl
  | cons x l ih => exact (ih _).trans (keeps s x)

end Sys2Proof.Machine

/-!
PROOFS. The filtered levels, and the events of an instant (for O60).
-/

namespace Sys2Proof.Machine

open Sys2Proof

section

/-! ### The filters (R160, R165) -/

variable {w i : Nat}

theorem atLeastThree_get (a b c d : BitVec w) :
    (atLeastThree a b c d).getLsbD i =
      (a.getLsbD i && b.getLsbD i && c.getLsbD i || a.getLsbD i && b.getLsbD i && d.getLsbD i ||
        a.getLsbD i && c.getLsbD i && d.getLsbD i || b.getLsbD i && c.getLsbD i && d.getLsbD i) := by
  unfold atLeastThree
  simp only [BitVec.getLsbD_or, BitVec.getLsbD_and]

/-- R160: a level moves where at least three of the four samples contradict it. -/
theorem filtered_moves (part : Levels → BitVec w) (old a b c d : Levels) (inside : i < w) :
    (filteredBits (part old) (part a) (part b) (part c) (part d)).getLsbD i =
      if 3 ≤ ([a, b, c, d].filter fun y => (part y).getLsbD i != (part old).getLsbD i).length then
        !(part old).getLsbD i
      else (part old).getLsbD i := by
  have every : ∀ o a b c d : Bool,
      (a && b && c || a && b && d || a && c && d || b && c && d ||
        o && !(!a && !b && !c || !a && !b && !d || !a && !c && !d || !b && !c && !d)) =
      if 3 ≤ 0 + (if (d != o) = true then 1 else 0) + (if (c != o) = true then 1 else 0) +
          (if (b != o) = true then 1 else 0) + (if (a != o) = true then 1 else 0) then !o else o := by decide
  rw [← List.countP_eq_length_filter]
  simp only [List.countP_cons, List.countP_nil]
  rw [← every]
  unfold filteredBits
  simp only [BitVec.getLsbD_or, BitVec.getLsbD_and, BitVec.getLsbD_not, atLeastThree_get, inside, decide_true,
    Bool.true_and]

/-- R165: a loaded level is that of three samples, or in a tie that of the last. -/
theorem loaded_takes (part : Levels → BitVec w) (a b c d : Levels) :
    (loadedBits (part a) (part b) (part c) (part d)).getLsbD i =
      if 3 ≤ ([a, b, c, d].filter fun y => (part y).getLsbD i).length then true
      else if ([a, b, c, d].filter fun y => (part y).getLsbD i).length ≤ 1 then false
      else (part a).getLsbD i := by
  have every : ∀ a b c d : Bool,
      (a && b && c || a && b && d || a && c && d || b && c && d || a && (b || c || d)) =
      if 3 ≤ 0 + (if d = true then 1 else 0) + (if c = true then 1 else 0) + (if b = true then 1 else 0) +
          (if a = true then 1 else 0) then true
      else if 0 + (if d = true then 1 else 0) + (if c = true then 1 else 0) + (if b = true then 1 else 0) +
          (if a = true then 1 else 0) ≤ 1 then false
      else a := by decide
  rw [← List.countP_eq_length_filter]
  simp only [List.countP_cons, List.countP_nil]
  rw [← every]
  unfold loadedBits
  simp only [BitVec.getLsbD_or, BitVec.getLsbD_and, atLeastThree_get]

/-! ### The events of one kind (R161) -/

variable {count n : Nat} {before after : BitVec w} {event : Nat → Bool → Instr} {e : Instr}

theorem mem_changes : e ∈ changes count before after event ↔
    ∃ k < count, before.getLsbD k ≠ after.getLsbD k ∧ event (k + 1) (after.getLsbD k) = e := by
  unfold changes
  rw [List.mem_filterMap]
  refine exists_congr fun k => ?_
  rw [List.mem_range]
  refine and_congr_right fun _ => ?_
  by_cases same : before.getLsbD k = after.getLsbD k
  · rw [if_pos same]
    exact ⟨nofun, fun ⟨moved, _⟩ => absurd same moved⟩
  · rw [if_neg same]
    exact ⟨fun here => ⟨same, Option.some.inj here⟩, fun ⟨_, here⟩ => congrArg some here⟩

theorem not_mem_changes (never : ∀ k b, event k b ≠ e) : e ∉ changes count before after event := fun mem => by
  obtain ⟨k, -, -, here⟩ := mem_changes.1 mem
  exact never _ _ here

/-- A record's event is there where its level has moved to the event's own. -/
theorem mem_changes_of {made : Bool} (first : 1 ≤ n) (only : ∀ k b, event k b = e ↔ k = n ∧ b = made) :
    e ∈ changes count before after event ↔
      (n ≤ count ∧ n ≤ w) ∧ before.getLsbD (n - 1) = !made ∧ after.getLsbD (n - 1) = made := by
  have within (x : BitVec w) (set : x.getLsbD (n - 1) = true) : n ≤ w := by
    have below := BitVec.lt_of_getLsbD set
    omega
  rw [mem_changes]
  constructor
  · rintro ⟨k, below, moved, here⟩
    obtain ⟨number, level⟩ := (only _ _).1 here
    obtain rfl : k = n - 1 := by omega
    have was : before.getLsbD (n - 1) = !made := by
      rw [level] at moved
      exact Bool.eq_not_of_ne moved
    refine ⟨⟨by omega, ?_⟩, was, level⟩
    cases made with
    | true => exact within after level
    | false => exact within before was
  · rintro ⟨⟨inside, -⟩, was, level⟩
    refine ⟨n - 1, by omega, ?_, (only _ _).2 ⟨by omega, level⟩⟩
    rw [was, level]
    exact Bool.not_ne_self made

end

/-! ### The events of an instant (R161 to R164) -/

/-- The kind and the number of an event of the scanner. -/
def eventKey : Instr → Nat × Nat
  | .doorOpened n => (0, n)
  | .doorClosed n => (0, n)
  | .boltEvent n _ => (1, n)
  | .latchEvent n _ => (2, n)
  | .presenceSeen n => (3, n)
  | .presenceClear n => (3, n)
  | _ => (4, 0)

/-- The event of a door, and of a pad, whose level has moved. -/
def doorEvent (n : Nat) (closed : Bool) : Instr := if closed then .doorClosed n else .doorOpened n

def padEvent (n : Nat) (present : Bool) : Instr := if present then .presenceSeen n else .presenceClear n

section

variable {s : Station} {after : Levels} {e : Instr} {n : Nat}

theorem instantEvents_eq :
    s.instantEvents after =
      changes s.lockers.lockers.length s.scan.level.door after.door doorEvent ++
      changes s.lockers.lockers.length s.scan.level.bolt after.bolt Instr.boltEvent ++
      changes s.cabins.cabins.length s.scan.level.latch after.latch Instr.latchEvent ++
      changes 8 s.scan.level.pad after.pad padEvent := rfl

theorem changes_keys {w : Nat} (kind count : Nat) (before after : BitVec w) (event : Nat → Bool → Instr)
    (keys : ∀ n b, eventKey (event n b) = (kind, n)) :
    ((changes count before after event).map eventKey).Sublist ((List.range count).map fun i => (kind, i + 1)) := by
  unfold changes
  induction List.range count with
  | nil => exact .slnil
  | cons i is ih =>
    rw [List.map_cons]
    by_cases same : before.getLsbD i = after.getLsbD i
    · rw [List.filterMap_cons, if_pos same]
      exact ih.cons _
    · rw [List.filterMap_cons, if_neg same]
      dsimp only
      rw [List.map_cons, keys]
      exact ih.cons_cons _

theorem instantEvents_nodup : (s.instantEvents after).Nodup := by
  have numbered (kind count : Nat) : ((List.range count).map fun i => (kind, i + 1)).Nodup :=
    List.nodup_range.map fun i j same => by simpa using same
  have kinds {kind count : Nat} {x : Nat × Nat} (mem : x ∈ (List.range count).map fun i => (kind, i + 1)) :
      x.1 = kind := by
    obtain ⟨i, -, rfl⟩ := List.mem_map.1 mem
    rfl
  refine .of_map eventKey ?_
  rw [instantEvents_eq, List.map_append, List.map_append, List.map_append]
  have doors := changes_keys 0 s.lockers.lockers.length s.scan.level.door after.door doorEvent
    fun n closed => by cases closed <;> rfl
  have bolts := changes_keys 1 s.lockers.lockers.length s.scan.level.bolt after.bolt Instr.boltEvent fun _ _ => rfl
  have latches := changes_keys 2 s.cabins.cabins.length s.scan.level.latch after.latch Instr.latchEvent fun _ _ => rfl
  have pads := changes_keys 3 8 s.scan.level.pad after.pad padEvent fun n present => by cases present <;> rfl
  refine List.Nodup.sublist (((doors.append bolts).append latches).append pads) ?_
  refine List.nodup_append'.2 ⟨List.nodup_append'.2 ⟨List.nodup_append'.2 ⟨numbered 0 _, numbered 1 _, ?_⟩,
    numbered 2 _, ?_⟩, numbered 3 _, ?_⟩
  · intro x first last
    exact absurd ((kinds first).symm.trans (kinds last)) (by decide)
  · intro x first last
    rcases List.mem_append.1 first with mem | mem
    · exact absurd ((kinds mem).symm.trans (kinds last)) (by decide)
    · exact absurd ((kinds mem).symm.trans (kinds last)) (by decide)
  · intro x first last
    rcases List.mem_append.1 first with mem | mem
    · rcases List.mem_append.1 mem with mem | mem
      · exact absurd ((kinds mem).symm.trans (kinds last)) (by decide)
      · exact absurd ((kinds mem).symm.trans (kinds last)) (by decide)
    · exact absurd ((kinds mem).symm.trans (kinds last)) (by decide)

theorem mem_instantEvents :
    e ∈ s.instantEvents after ↔
      e ∈ changes s.lockers.lockers.length s.scan.level.door after.door doorEvent ∨
      e ∈ changes s.lockers.lockers.length s.scan.level.bolt after.bolt Instr.boltEvent ∨
      e ∈ changes s.cabins.cabins.length s.scan.level.latch after.latch Instr.latchEvent ∨
      e ∈ changes 8 s.scan.level.pad after.pad padEvent := by
  rw [instantEvents_eq, List.mem_append, List.mem_append, List.mem_append, or_assoc, or_assoc]

theorem doorEvent_iff {k : Nat} {b made : Bool} : doorEvent k b = doorEvent n made ↔ k = n ∧ b = made := by
  cases b <;> cases made <;> simp [doorEvent]

theorem padEvent_iff {k : Nat} {b made : Bool} : padEvent k b = padEvent n made ↔ k = n ∧ b = made := by
  cases b <;> cases made <;> simp [padEvent]

theorem eventKey_doorEvent (k : Nat) (b : Bool) : eventKey (doorEvent k b) = (0, k) := by cases b <;> rfl

theorem eventKey_padEvent (k : Nat) (b : Bool) : eventKey (padEvent k b) = (3, k) := by cases b <;> rfl

/-- Events of two kinds differ: an event is not among those of another kind. -/
theorem not_mem_kind {w count kind : Nat} {before after : BitVec w} {event : Nat → Bool → Instr}
    (keys : ∀ k b, eventKey (event k b) = (kind, k)) (other : (eventKey e).1 ≠ kind) :
    e ∉ changes count before after event :=
  not_mem_changes fun k b here => other (congrArg Prod.fst (here ▸ keys k b))

/-- The kind of an event tells among which of the four it is to be found. -/
theorem mem_instant_kind :
    e ∈ s.instantEvents after ↔
      match (eventKey e).1 with
      | 0 => e ∈ changes s.lockers.lockers.length s.scan.level.door after.door doorEvent
      | 1 => e ∈ changes s.lockers.lockers.length s.scan.level.bolt after.bolt Instr.boltEvent
      | 2 => e ∈ changes s.cabins.cabins.length s.scan.level.latch after.latch Instr.latchEvent
      | 3 => e ∈ changes 8 s.scan.level.pad after.pad padEvent
      | _ => False := by
  have doors (other : (eventKey e).1 ≠ 0) := not_mem_kind (count := s.lockers.lockers.length)
    (before := s.scan.level.door) (after := after.door) eventKey_doorEvent other
  have bolts (other : (eventKey e).1 ≠ 1) := not_mem_kind (count := s.lockers.lockers.length)
    (before := s.scan.level.bolt) (after := after.bolt) (event := Instr.boltEvent) (fun _ _ => rfl) other
  have latches (other : (eventKey e).1 ≠ 2) := not_mem_kind (count := s.cabins.cabins.length)
    (before := s.scan.level.latch) (after := after.latch) (event := Instr.latchEvent) (fun _ _ => rfl) other
  have pads (other : (eventKey e).1 ≠ 3) := not_mem_kind (count := 8)
    (before := s.scan.level.pad) (after := after.pad) eventKey_padEvent other
  rw [mem_instantEvents]
  split <;> simp_all

theorem door_mem_instant (first : 1 ≤ n) (made : Bool) :
    doorEvent n made ∈ s.instantEvents after ↔
      (n ≤ s.lockers.lockers.length ∧ n ≤ 60) ∧ s.scan.level.door.getLsbD (n - 1) = !made ∧
        after.door.getLsbD (n - 1) = made := by
  rw [mem_instant_kind, eventKey_doorEvent]
  exact mem_changes_of first fun _ _ => doorEvent_iff

theorem bolt_mem_instant (first : 1 ≤ n) (made : Bool) :
    .boltEvent n made ∈ s.instantEvents after ↔
      (n ≤ s.lockers.lockers.length ∧ n ≤ 60) ∧ s.scan.level.bolt.getLsbD (n - 1) = !made ∧
        after.bolt.getLsbD (n - 1) = made :=
  mem_instant_kind.trans (mem_changes_of first fun _ _ => by simp)

theorem latch_mem_instant (first : 1 ≤ n) (made : Bool) :
    .latchEvent n made ∈ s.instantEvents after ↔
      (n ≤ s.cabins.cabins.length ∧ n ≤ 8) ∧ s.scan.level.latch.getLsbD (n - 1) = !made ∧
        after.latch.getLsbD (n - 1) = made :=
  mem_instant_kind.trans (mem_changes_of first fun _ _ => by simp)

theorem pad_mem_instant (first : 1 ≤ n) (made : Bool) :
    padEvent n made ∈ s.instantEvents after ↔
      n ≤ 8 ∧ s.scan.level.pad.getLsbD (n - 1) = !made ∧ after.pad.getLsbD (n - 1) = made := by
  rw [mem_instant_kind, eventKey_padEvent]
  exact (mem_changes_of first fun _ _ => padEvent_iff).trans (and_congr_left' (and_self_iff))

/-- An event of the scanner: of a locker's door or bolt, of a cabin's latch, or of a pad. -/
def Scanned (e : Instr) : Prop :=
  ∃ n, 1 ≤ n ∧ e ∈ [.doorClosed n, .doorOpened n, .boltEvent n true, .boltEvent n false, .latchEvent n true,
    .latchEvent n false, .presenceSeen n, .presenceClear n]

theorem scanned_of_mem (mem : e ∈ s.instantEvents after) : Scanned e := by
  rcases mem_instantEvents.1 mem with mem | mem | mem | mem
  all_goals
    obtain ⟨k, -, -, rfl⟩ := mem_changes.1 mem
    refine ⟨k + 1, by omega, ?_⟩
  · cases after.door.getLsbD k <;> simp [doorEvent]
  · cases after.bolt.getLsbD k <;> simp
  · cases after.latch.getLsbD k <;> simp
  · cases after.pad.getLsbD k <;> simp [padEvent]

end

/-! ### The rows of an instant -/

section

variable {s : Station} {e : Instr}

/-- Only taps wait among the events handed on. -/
def Station.TapsWait (s : Station) : Prop :=
  ∀ e ∈ s.deliveries, (∃ tap, e = .lockerTap tap) ∨ ∃ n tap, e = .cabinTap n tap

/-- A command that does not wait among the events handed on is taken without a trace. -/
theorem take_absent {c : Instr} (absent : ∀ e ∈ s.deliveries, sameEvent c e = false) : s.take c = s := by
  have stays : s.deliveries.eraseP (sameEvent c) = s.deliveries :=
    List.eraseP_of_forall_not fun e mem => by rw [absent e mem]; exact Bool.false_ne_true
  exact congrArg (fun l => ({ s with deliveries := l } : Station)) stays

theorem take_tapsWait (c : Instr) (taps : s.TapsWait) : (s.take c).TapsWait := fun e mem =>
  taps e (List.eraseP_sublist.subset mem)

theorem scanned_not_waiting (taps : s.TapsWait) (scanned : Scanned e) : s.take e = s := by
  obtain ⟨n, -, mem⟩ := scanned
  refine take_absent fun x waits => ?_
  rcases taps x waits with ⟨tap, rfl⟩ | ⟨m, tap, rfl⟩
  all_goals
    simp only [List.mem_cons, List.not_mem_nil, or_false] at mem
    rcases mem with rfl | rfl | rfl | rfl | rfl | rfl | rfl | rfl <;> rfl

theorem whenLoaded_loaded {f : Station → Station} (live : s.live = true) (loaded : s.scan.loaded = true) :
    whenLoaded f s = f s := by
  unfold whenLoaded
  rw [whenLive_live s _ live, if_pos loaded]

/-- An event of the scanner, taken by its own row, is taken by its owner (R162 to R164). -/
theorem effect_scanned (live : s.live = true) (loaded : s.scan.loaded = true) (taps : s.TapsWait) (scanned : Scanned e) :
    effect e s = s.takeInstant e := by
  have stays := scanned_not_waiting taps scanned
  have row {f : Station → Station} (meaning : ∀ u, exec e u = perform e (whenLoaded f) u) : effect e s = f s := by
    rw [effect_perform meaning, stays, whenLoaded_loaded live loaded]
  obtain ⟨n, -, mem⟩ := scanned
  simp only [List.mem_cons, List.not_mem_nil, or_false] at mem
  rcases mem with rfl | rfl | rfl | rfl | rfl | rfl | rfl | rfl
  all_goals exact row fun _ => rfl

/-- What runs after an event of the scanner still runs on loaded levels, with only taps handed on. -/
theorem takeInstant_keeps {x : Instr} (live : s.live = true) (loaded : s.scan.loaded = true) (taps : s.TapsWait) :
    (s.takeInstant x).live = true ∧ (s.takeInstant x).scan.loaded = true ∧ (s.takeInstant x).TapsWait := by
  obtain ⟨deliveries, restart, scan⟩ : _ = _ ∧ _ = _ ∧ _ = _ := by
    simpa only [Station.aside, Prod.mk.injEq] using takeInstant_aside s x
  refine ⟨?_, scan.trans loaded, ?_⟩
  · unfold Station.live
    rw [restart]
    exact live
  · unfold Station.TapsWait
    rw [deliveries]
    exact taps

/-- R161: the events of an instant run as their rows do, one after another. -/
theorem foldl_rows (events : List Instr) (scanned : ∀ e ∈ events, Scanned e) (live : s.live = true)
    (loaded : s.scan.loaded = true) (taps : s.TapsWait) :
    events.foldl Station.takeInstant s =
      events.foldl
        (fun u e =>
          match exec e { pending := [], station := u } with
          | .next v => v.station
          | _ => u) s := by
  induction events generalizing s with
  | nil => rfl
  | cons e events ih =>
    rw [List.foldl_cons, List.foldl_cons]
    simp only [exec_effect]
    rw [effect_scanned live loaded taps (scanned e (.head _))]
    obtain ⟨runs, levels, waits⟩ := takeInstant_keeps (x := e) live loaded taps
    have rest := ih (fun x mem => scanned x (.tail _ mem)) runs levels waits
    simpa only [exec_effect] using rest

end

end Sys2Proof.Machine

/-!
PROOFS. The sample instants, and the settlements of a load (for O60).
-/

namespace Sys2Proof.Machine

open Sys2Proof

section

variable {s : Station}

/-! ### The sample instant (R159, R160, R165) -/

/-- R165: a load that is over, or has not its four samples, is not ended by a sample. -/
theorem finishLoad_loaded (loaded : s.scan.loaded = true) : s.finishLoad = s := by
  unfold Station.finishLoad
  rw [loaded]
  rfl

theorem finishLoad_short (short : s.scan.history.length ≤ 3) : s.finishLoad = s := by
  have unfilled : (s.scan.history.length == 4) = false := beq_false_of_ne (by omega)
  unfold Station.finishLoad
  rw [unfilled, Bool.and_false]
  rfl

theorem finishLoad_full (loaded : s.scan.loaded = false) (full : s.scan.history.length = 4) :
    s.finishLoad = (s.take .filterLoadEnd).loadFilters := by
  unfold Station.finishLoad
  rw [loaded, full]
  rfl

/-- The sample enters the history, and the next instant is due. -/
def Station.sampled (s : Station) (x : Levels) : Station :=
  { s with
    now := max s.now s.scan.sampleDue
    scan :=
      { s.scan with
        switches := x
        history := (x :: s.scan.history).take 4
        sampleDue := s.scan.sampleDue + s.orders.setup.filterInterval } }

theorem sample_eq (x : Levels) :
    s.sample x =
      if s.finishLoad.scan.loaded = true then (s.finishLoad.sampled x).filterSample
      else if (s.finishLoad.sampled x).scan.history.length = 4 then (s.finishLoad.sampled x).deliver .filterLoadEnd
      else s.finishLoad.sampled x := rfl

theorem sample_loaded (x : Levels) (loaded : s.scan.loaded = true) : s.sample x = (s.sampled x).filterSample := by
  rw [sample_eq, finishLoad_loaded loaded, if_pos loaded]

/-- R160, R161: the levels are brought up to date, and the events of the instant run as their rows do. -/
theorem filterSample_rows {a b c d : Levels} (history : s.scan.history = [a, b, c, d]) (live : s.live = true)
    (loaded : s.scan.loaded = true) (taps : s.TapsWait) :
    s.filterSample =
      (s.instantEvents (filteredLevels s.scan.level a b c d)).foldl
        (fun u e =>
          match exec e { pending := [], station := u } with
          | .next v => v.station
          | _ => u) { s with scan.level := filteredLevels s.scan.level a b c d } := by
  unfold Station.filterSample
  rw [history]
  exact foldl_rows (s := { s with scan.level := filteredLevels s.scan.level a b c d }) _ (fun _ => scanned_of_mem)
    live loaded taps

theorem sample_loading (x : Levels) (loading : s.scan.loaded = false) (short : s.scan.history.length ≤ 3) :
    s.sample x =
      { s with
        now := max s.now s.scan.sampleDue
        deliveries := s.deliveries ++ if s.scan.history.length = 3 then [.filterLoadEnd] else []
        scan :=
          { s.scan with
            switches := x
            history := x :: s.scan.history
            sampleDue := s.scan.sampleDue + s.orders.setup.filterInterval } } := by
  have whole : (x :: s.scan.history).take 4 = x :: s.scan.history := List.take_of_length_le (Nat.succ_le_succ short)
  rw [sample_eq, finishLoad_short short, if_neg (by rw [loading]; exact Bool.false_ne_true)]
  unfold Station.sampled Station.deliver
  rw [whole]
  dsimp only
  by_cases third : s.scan.history.length = 3
  · rw [if_pos third]
    exact if_pos (congrArg Nat.succ third)
  · rw [if_neg third, List.append_nil]
    exact if_neg fun fourth => third (Nat.succ.inj fourth)

/-! ### The settlement of a locker and of a cabin (R46, R108) -/

theorem settleWarm_eq (l : Locker) :
    s.settleWarm l =
      if (s.claimAt l.number).isSome = true ∨ (s.request? (l.number - 1)).isSome = true then s
      else
        match l.state with
        | .claiming => s.freeLocker l.number
        | .unbolting => Station.settleWarm.settleDrive s l
        | .unbolted => Station.settleWarm.settleDrive s l
        | .opened => s.settleHeld l.number
        | .locked => s.settleHeld l.number
        | .unsecured => s.settleHeld l.number
        | .free => s.freeLocker l.number
        | .orphan => s.settleLocker l.number .orphan
        | .outOfService => s.settleLocker l.number .outOfService
        | .jammed => s := by
  unfold Station.settleWarm Station.takenSince
  exact if_congr Bool.or_eq_true_iff rfl rfl

/-- A cabin emptied for a state by a settlement, its clock the occupancy's where one is given. -/
def Cabin.emptied (state : CabinState) (clock : Option (BitVec 16)) (k : Cabin) : Cabin :=
  { k with
    state
    occupant := none
    occupancy := clock.getD k.occupancy
    clearMoment := none
    reservedFor := none
    overstay := false
    graceAt := none
    admitAt := none
    vacateAt := none
    seconds := 0
    unsettled := false }

/-- A cabin settled FREE, and one settled OCCUPIED with no band. -/
def Station.settledFree (s : Station) (n : Nat) : Station :=
  (s.changeCabin n (Cabin.emptied .free none)).setLatchTarget n (some .unlatched)

def Station.settledOccupied (s : Station) (n : Nat) : Station :=
  (s.changeCabin n (Cabin.emptied .occupied (some s.cabins.clock))).setLatchTarget n none

theorem freeCabin_settle (n : Nat) :
    (s.changeCabin n fun d => { d with unsettled := false }).freeCabin n = s.settledFree n :=
  congrArg (Station.setLatchTarget n (some .unlatched)) (changeCabin_changeCabin s n _ _ fun _ => rfl)

theorem occupyCabin_settle (n : Nat) :
    (s.changeCabin n fun d => { d with unsettled := false }).occupyCabin n none = s.settledOccupied n :=
  congrArg (Station.setLatchTarget n none) (changeCabin_changeCabin s n _ _ fun _ => rfl)

theorem settleCabin_eq (n : Nat) :
    s.settleCabin n =
      match s.cabin? n with
      | none => s
      | some k =>
        if k.unsettled = false then s.resumeCabin n
        else
          match k.state with
          | .outOfService => s.changeCabin n fun k => { k with unsettled := false }
          | .fault => s.changeCabin n fun k => { k with unsettled := false }
          | .occupied =>
            if s.presence n = .confirmed then
              (s.changeCabin n fun k => { k with unsettled := false, clearMoment := none }).setLatchTarget n none
            else s.settledFree n
          | _ => if s.presence n = .confirmed then s.settledOccupied n else s.settledFree n := by
  have stays : (s.changeCabin n fun d => { d with unsettled := false }).presence n = s.presence n := rfl
  unfold Station.settleCabin
  cases s.cabin? n with
  | none => rfl
  | some k =>
    dsimp only
    rw [stays, freeCabin_settle, occupyCabin_settle]
    refine if_congr (iff_of_eq (Bool.not_eq_true' _)) rfl ?_
    cases k.state
    case occupied =>
      exact if_congr decide_eq_true_iff
        (congrArg (Station.setLatchTarget n none) (changeCabin_changeCabin s n _ _ fun _ => rfl)) rfl
    case outOfService | fault => rfl
    all_goals exact if_congr decide_eq_true_iff rfl rfl

/-! ### The end of a load (R165) -/

theorem settleCabins_aside : s.settleCabins.aside = s.aside :=
  foldl_aside { s with cabins.cabins := s.cabins.cabins.map s.loadCabin } _
    (fun t (k : Cabin) => settleCabin_aside t k.number) _

theorem settleStart_due (due : s.restart.settleDue = true) :
    s.settleStart =
      (s.lockers.lockers.foldl Station.settleWarm { s with restart.settleDue := false }).settleCabins :=
  if_pos due

theorem settleStart_undue (settled : s.restart.settleDue = false) : s.settleStart = s :=
  if_neg (by rw [settled]; exact Bool.false_ne_true)

/-- R165: the settlements leave what waits as it stands, and what runs runs on. -/
theorem settleStart_keeps :
    s.settleStart.deliveries = s.deliveries ∧ s.settleStart.live = s.live ∧
      s.settleStart.scan.loaded = s.scan.loaded := by
  unfold Station.settleStart
  split
  · have whole := settleCabins_aside.trans
      (foldl_aside { s with restart.settleDue := false } _ settleWarm_aside s.lockers.lockers)
    obtain ⟨deliveries, restart, loaded⟩ : _ = _ ∧ _ = _ ∧ _ = _ := by
      simpa only [Station.aside, Prod.mk.injEq] using whole
    refine ⟨deliveries, ?_, loaded⟩
    unfold Station.live
    rw [restart]
  · exact ⟨rfl, rfl, rfl⟩

/-- The levels of a load as they are taken, before the settlements. -/
def Station.levelled (s : Station) (level : Levels) : Station :=
  { s with
    scan.level := level
    scan.loaded := true
    scan.pads := s.scan.pads.map (loadedPad level) }

theorem loadFilters_eq {a b c d : Levels} (loading : s.scan.loaded = false) (history : s.scan.history = [a, b, c, d]) :
    s.loadFilters = (s.levelled (loadedLevels a b c d)).settleStart := by
  unfold Station.loadFilters
  rw [loading, history]
  rfl

/-- R165: after a load the filters are loaded, and what waits, and whether the blocks run, is as before. -/
theorem loadFilters_keeps (loading : s.scan.loaded = false) (full : s.scan.history.length = 4) :
    s.loadFilters.deliveries = s.deliveries ∧ s.loadFilters.live = s.live ∧ s.loadFilters.scan.loaded = true := by
  obtain ⟨a, b, c, d, history⟩ := List.length_eq_four.1 full
  rw [loadFilters_eq loading history]
  exact settleStart_keeps

/-- A sample that does not wait among the events handed on is taken without a trace. -/
theorem take_sample (x : Levels) (none : ∀ e ∈ s.deliveries, ∀ y, e ≠ .senseSample y) : s.take (.senseSample x) = s := by
  refine take_absent fun e waits => ?_
  unfold sameEvent
  split
  next same => cases same
  next => exact absurd rfl (none _ waits _)
  next => exact decide_eq_false fun same => none _ waits x same.symm

/-- R165: a sample that finds the load's end waiting takes it first. -/
theorem sample_full (x : Levels) (loading : s.scan.loaded = false) (full : s.scan.history.length = 4) :
    s.sample x = (s.take .filterLoadEnd).loadFilters.sample x := by
  have loaded := (loadFilters_keeps (s := s.take .filterLoadEnd) loading full).2.2
  rw [sample_eq, finishLoad_full loading full, sample_eq, finishLoad_loaded loaded]

end

/-- Settles O60. A sample's events run as the filter's fold of their owners, since none of them waits (`foldl_rows`); the
load's settlements are the model's own, record by record (`settleWarm_eq`, `settleCabin_eq`). -/
theorem scannerRows : Obligations.ScannerRows := by
  refine ⟨?_, ?_, ?_, ?_⟩
  · intro x a b c d st live loaded history taps
    refine runs_live (f := Station.sample x) rfl live ?_
    have entered : ((st.station.take (.senseSample x)).sampled x).scan.history = [x, a, b, c] :=
      congrArg (fun l => (x :: l).take 4) history
    have rows := filterSample_rows (s := (st.station.take (.senseSample x)).sampled x) entered live loaded
      (take_tapsWait (.senseSample x) taps)
    rw [sample_loaded (s := st.station.take _) x loaded, rows]
    refine ⟨filteredLevels st.station.scan.level x a b c,
      st.station.instantEvents (filteredLevels st.station.scan.level x a b c), fun i inside =>
        ⟨filtered_moves (·.door) st.station.scan.level x a b c inside,
          filtered_moves (·.bolt) st.station.scan.level x a b c inside⟩,
      fun i inside =>
        ⟨filtered_moves (·.latch) st.station.scan.level x a b c inside,
          filtered_moves (·.pad) st.station.scan.level x a b c inside⟩,
      ?_, instantEvents_nodup, fun _ => scanned_of_mem, fun n first => ?_⟩
    · unfold Station.sampled
      rw [Station.take_scan, history]
      rfl
    · have swap {p q r : Prop} : p ∧ q ∧ r ↔ p ∧ r ∧ q := and_congr_right' and_comm
      exact ⟨door_mem_instant first true, (door_mem_instant first false).trans swap,
        bolt_mem_instant first true, (bolt_mem_instant first false).trans swap,
        latch_mem_instant first true, (latch_mem_instant first false).trans swap,
        pad_mem_instant first true, (pad_mem_instant first false).trans swap⟩
  · intro x st live loading short
    refine runs_live (f := Station.sample x) rfl live ?_
    exact sample_loading (s := st.station.take _) x loading short
  · intro x st live loading full none
    have stays := take_sample x none
    refine runs_live (f := Station.sample x) rfl live ?_
    obtain ⟨waits, runs, loaded⟩ :=
      loadFilters_keeps (s := st.station.take .filterLoadEnd) loading full
    refine ⟨_, exec_effect _ _, ?_⟩
    have ended : effect .filterLoadEnd st.station = (st.station.take .filterLoadEnd).loadFilters := by
      rw [effect_perform (fun _ => rfl), whenLive_live (s := st.station.take _) _ live]
    have staysLoaded := take_sample (s := (st.station.take .filterLoadEnd).loadFilters) x fun e mem =>
      none e (List.eraseP_sublist.subset (waits ▸ mem))
    rw [exec_effect, ended, effect_perform (fun _ => rfl), staysLoaded, whenLive_live _ _ (runs.trans live), stays,
      ← sample_full x loading full]
  · intro a b c d st live loading history
    refine runs_live (f := Station.loadFilters) rfl live ?_
    rw [loadFilters_eq (s := st.station.take _) loading history]
    refine ⟨loadedLevels a b c d, ?_⟩
    intro taken loaded settledLocker emptied settledCabin lockers cabins
    have lockerRule : settledLocker = Station.settleWarm := by
      funext u l
      exact (settleWarm_eq l).symm
    have cabinRule : settledCabin = Station.settleCabin := by
      funext u n
      exact (settleCabin_eq n).symm
    refine ⟨fun i _ => ⟨loaded_takes (·.door) a b c d, loaded_takes (·.bolt) a b c d⟩,
      fun i _ => ⟨loaded_takes (·.latch) a b c d, loaded_takes (·.pad) a b c d⟩, fun settled => ?_, fun due => ?_⟩
    · exact settleStart_undue settled
    · have lockersRule : (st.station.lockers.lockers.foldl Station.settleWarm
          { (st.station.take .filterLoadEnd).levelled (loadedLevels a b c d) with restart.settleDue := false }) =
          lockers := congrArg (fun f => List.foldl f _ _) lockerRule.symm
      have start := settleStart_due (s := (st.station.take .filterLoadEnd).levelled (loadedLevels a b c d)) due
      exact start.trans ((congrArg Station.settleCabins lockersRule).trans (by rw [cabinRule]; rfl))

end Sys2Proof.Machine
